-- ==== Sys2Proof/Word.lean ====
section
/-!
DEFINITION. The word types of the Snowflake LED engine: a bus word (20_memory.md R72), a channel or command
field (30_encoding.md R100, R110), a colour word (R100) and a byte address of the register space (20_memory.md R71).
-/

namespace Sys2Proof

/-- A 32-bit bus word (20_memory.md R72). -/
abbrev Word := BitVec 32

/-- Eight bits: a colour channel, a command field or a random draw. -/
abbrev Byte := BitVec 8

/-- A 24-bit colour word, G in bits 23:16, R in 15:8, B in 7:0 (30_encoding.md R100). -/
abbrev Color := BitVec 24

/-- A byte address of the 512-byte register space (20_memory.md R70, R71). -/
abbrev Addr := BitVec 9

end Sys2Proof
end

