-- ==== Sys2Proof/Syntax.lean ====
section
/-!
DEFINITION. The commands of the block, one constructor per row of spec/opcode_table.json (30_encoding.md R112).
Operands are naturals, zero-extended wherever a command uses them (R111); those that an encoding can hold are the ones
`Instr.wellFormed` accepts (R126).
-/

namespace Sys2Proof

/-- A command of the block (30_encoding.md R112). -/
inductive Instr where
  /-- NOP, 40_host_access.md R147. -/
  | nop
  /-- FILL_ALL, 43_color_primitives.md R251. -/
  | fillAll
  /-- FILL_RANGE lo, hi, 43_color_primitives.md R252. -/
  | fillRange (lo hi : Nat)
  /-- FILL_MASK, 43_color_primitives.md R253. -/
  | fillMask
  /-- ROTATE k, 43_color_primitives.md R255. -/
  | rotate (k : Nat)
  /-- HALVE, 43_color_primitives.md R263. -/
  | halve
  /-- RAINBOW, 43_color_primitives.md R267. -/
  | rainbow
  /-- RANDOM_FILL, 43_color_primitives.md R271. -/
  | randomFill
  /-- SELECT slot, 42_pattern_engine.md R200. -/
  | select (slot : Nat)
  /-- FADE_START, 42_pattern_engine.md R201. -/
  | fadeStart
  /-- STEP, 42_pattern_engine.md R203. -/
  | step
  /-- TRANSMIT, 41_transmitter.md R171. -/
  | transmit
  deriving DecidableEq, Repr

end Sys2Proof
end

