-- ==== Sys2Proof/WellFormed.lean ====
section
/-!
DEFINITION. Which commands have an encoding: "Operands are decimal or `0x` hexadecimal and must fit 8 bits. An operand
that does not fit is an assembly error, not an encoding" (30_encoding.md R126). A slot or an LED index past the
block's own range is well formed: it is rejected when it runs (60_exceptions.md R330).
-/

namespace Sys2Proof

/-- An operand fits its 8-bit field (30_encoding.md R126). -/
def fitsField (a : Nat) : Bool := a < 256

/-- A command whose operands fit their fields (30_encoding.md R126). -/
def Instr.wellFormed : Instr → Bool
  | .nop => true
  | .fillAll => true
  | .fillRange lo hi => fitsField lo && fitsField hi
  | .fillMask => true
  | .rotate k => fitsField k
  | .halve => true
  | .rainbow => true
  | .randomFill => true
  | .select slot => fitsField slot
  | .fadeStart => true
  | .step => true
  | .transmit => true

end Sys2Proof
end

