-- ==== Sys2Proof/Decode.lean ====
section
/-!
DEFINITION. Decoding a CMD word (30_encoding.md R110 to R114), the encoder, and the table of match and mask values of
R112 in its own shape. The CMD word is one 32-bit bus word and no narrower access exists (20_memory.md R72), so the
decoder takes the word whole; no byte order is involved (R74).
-/

namespace Sys2Proof

/-- OP, bits 31:24 of a CMD word (30_encoding.md R110). -/
def opField (w : Word) : Byte := w.extractLsb' 24 8

/-- A, bits 23:16 of a CMD word (30_encoding.md R110). -/
def aField (w : Word) : Byte := w.extractLsb' 16 8

/-- B, bits 15:8 of a CMD word (30_encoding.md R110). -/
def bField (w : Word) : Byte := w.extractLsb' 8 8

/-- Z, bits 7:0 of a CMD word, which must be 0 (30_encoding.md R110). -/
def zField (w : Word) : Byte := w.extractLsb' 0 8

/-- Why a word is illegal: the three cases of 30_encoding.md R114. -/
inductive DecodeError where
  /-- OP is none of the twelve opcodes of R112. -/
  | unlistedOpcode
  /-- OP is listed and Z is not zero. -/
  | zNotZero
  /-- OP is listed and A or B, marked 0 in R112, is not zero. -/
  | operandNotZero
  deriving DecidableEq, Repr

/-- A row whose A and B are both marked 0 (30_encoding.md R112). -/
def decodePlain (w : Word) (i : Instr) : Except DecodeError Instr :=
  if zField w ≠ 0 then .error .zNotZero
  else if aField w ≠ 0 ∨ bField w ≠ 0 then .error .operandNotZero
  else .ok i

/-- A row whose operand is A and whose B is marked 0 (30_encoding.md R112). -/
def decodeOne (w : Word) (i : Nat → Instr) : Except DecodeError Instr :=
  if zField w ≠ 0 then .error .zNotZero
  else if bField w ≠ 0 then .error .operandNotZero
  else .ok (i (aField w).toNat)

/-- A row whose operands are A and B (30_encoding.md R112). -/
def decodeTwo (w : Word) (i : Nat → Nat → Instr) : Except DecodeError Instr :=
  if zField w ≠ 0 then .error .zNotZero
  else .ok (i (aField w).toNat (bField w).toNat)

/-- Decoding, total on every 32-bit word (30_encoding.md R113, R114). -/
def decode (w : Word) : Except DecodeError Instr :=
  if opField w = 0x00 then decodePlain w .nop
  else if opField w = 0x01 then decodePlain w .fillAll
  else if opField w = 0x02 then decodeTwo w .fillRange
  else if opField w = 0x03 then decodePlain w .fillMask
  else if opField w = 0x04 then decodeOne w .rotate
  else if opField w = 0x05 then decodePlain w .halve
  else if opField w = 0x06 then decodePlain w .rainbow
  else if opField w = 0x07 then decodePlain w .randomFill
  else if opField w = 0x10 then decodeOne w .select
  else if opField w = 0x11 then decodePlain w .fadeStart
  else if opField w = 0x12 then decodePlain w .step
  else if opField w = 0x20 then decodePlain w .transmit
  else .error .unlistedOpcode

/-- The word with fields OP, A, B and Z = 0 (30_encoding.md R110). -/
def cmdWord (op : Byte) (a b : Nat) : Word :=
  op ++ BitVec.ofNat 8 a ++ BitVec.ofNat 8 b ++ (0 : Byte)

/-- The word of a command (30_encoding.md R112, R126). -/
def encode : Instr → Word
  | .nop => cmdWord 0x00 0 0
  | .fillAll => cmdWord 0x01 0 0
  | .fillRange lo hi => cmdWord 0x02 lo hi
  | .fillMask => cmdWord 0x03 0 0
  | .rotate k => cmdWord 0x04 k 0
  | .halve => cmdWord 0x05 0 0
  | .rainbow => cmdWord 0x06 0 0
  | .randomFill => cmdWord 0x07 0 0
  | .select slot => cmdWord 0x10 slot 0
  | .fadeStart => cmdWord 0x11 0 0
  | .step => cmdWord 0x12 0 0
  | .transmit => cmdWord 0x20 0 0

/-- A row of the opcode map: a word runs the row's command when `w &&& mask = matchBits` (30_encoding.md R113). -/
structure OpcodeRow where
  matchBits : Word
  mask : Word
  deriving DecidableEq, Repr

/-- The row of a command's constructor, with the match and mask values of 30_encoding.md R112. -/
def rowOf : Instr → OpcodeRow
  | .nop => ⟨0x00000000, 0xFFFFFFFF⟩
  | .fillAll => ⟨0x01000000, 0xFFFFFFFF⟩
  | .fillRange _ _ => ⟨0x02000000, 0xFF0000FF⟩
  | .fillMask => ⟨0x03000000, 0xFFFFFFFF⟩
  | .rotate _ => ⟨0x04000000, 0xFF00FFFF⟩
  | .halve => ⟨0x05000000, 0xFFFFFFFF⟩
  | .rainbow => ⟨0x06000000, 0xFFFFFFFF⟩
  | .randomFill => ⟨0x07000000, 0xFFFFFFFF⟩
  | .select _ => ⟨0x10000000, 0xFF00FFFF⟩
  | .fadeStart => ⟨0x11000000, 0xFFFFFFFF⟩
  | .step => ⟨0x12000000, 0xFFFFFFFF⟩
  | .transmit => ⟨0x20000000, 0xFFFFFFFF⟩

/-- The opcode map, row by row in the order of 30_encoding.md R112. -/
def opcodeRows : List OpcodeRow :=
  [rowOf .nop, rowOf .fillAll, rowOf (.fillRange 0 0), rowOf .fillMask, rowOf (.rotate 0), rowOf .halve,
   rowOf .rainbow, rowOf .randomFill, rowOf (.select 0), rowOf .fadeStart, rowOf .step, rowOf .transmit]

/-- The command the decoder reads from a table row's bits. A command is exactly one word (30_encoding.md R110), so the
bits past `nbits` are 0 and bits past 31 do not exist. -/
def decodeTableWord (nbits w : Nat) : Option Instr :=
  (decode (BitVec.ofNat 32 (w % 2 ^ nbits))).toOption

end Sys2Proof
end

