-- ==== Sys2Proof/Config.lean ====
section
/-!
DEFINITION. What an implementation of the block fixes (00_scope.md R8): the synthesis-time parameters, which the
model takes as an argument by carrying them in `State.params` (log entry 1), the OPEN parameters as constants without
a body (log entry 3), and the random source's free answers (log entry 4).
-/

namespace Sys2Proof

/-- The line-timing parameters, in clock cycles (00_scope.md R8, 41_transmitter.md R175): slot length, high time of a
1 bit, high time of a 0 bit, latch low time. -/
structure LineTiming where
  tbit : Nat
  t1h : Nat
  t0h : Nat
  tres : Nat
  deriving DecidableEq, Repr

/-- The parameters of 00_scope.md R8. `rbLut` holds RB_LUT as rows: row `L - 1` lists RB_LUT(L, 0) to
RB_LUT(L, L - 1), for L from 1 to N_TUNED / 3 (log entry 12). `fClk` and `cmdLat` are OPEN and no rule depends on
them (70_reset_and_hazards.md R390). -/
structure Params where
  n : Nat
  nSlots : Nat
  nTuned : Nat
  peak : Nat
  rbLut : List (List Nat)
  shortTicks : Nat
  longTicks : Nat
  demoTicks : Nat
  line : LineTiming
  fClk : Nat
  cmdLat : Nat
  deriving DecidableEq, Repr

/-- The OPEN clock frequency F_CLK in Hz. -/
opaque Config.fClk : Nat

/-- T0H_CYC is one more than this OPEN number (00_scope.md R8: 1 ≤ T0H_CYC). -/
opaque Config.t0hLessOne : Nat

/-- T1H_CYC exceeds T0H_CYC by one more than this OPEN number (00_scope.md R8: T0H_CYC < T1H_CYC). -/
opaque Config.t1hGapLessOne : Nat

/-- TBIT_CYC exceeds T1H_CYC by one more than this OPEN number (00_scope.md R8: T1H_CYC < TBIT_CYC). -/
opaque Config.tbitGapLessOne : Nat

/-- TRES_CYC is one more than this OPEN number (00_scope.md R8: TRES_CYC ≥ 1). -/
opaque Config.tresLessOne : Nat

/-- CMD_LAT is one more than this OPEN number (92_eei_decisions.md, Open parameters: CMD_LAT ≥ 1). -/
opaque Config.cmdLatLessOne : Nat

/-- The random source's answer to the draw with a given number: any byte (00_scope.md R15,
93_implementation_defined.md I3; log entry 4). -/
opaque Config.freeDraw : Nat → Byte

end Sys2Proof
end

