-- ==== Sys2Proof/Machine/Params.lean ====
section
/-!
DEFINITION. The parameters' default values, what is derived from them and the constraint on them (00_scope.md R8), and
the reset tables of the palette, the slots and the group masks (10_state.md R37, R39, R40).
-/

namespace Sys2Proof

/-- MID_TICKS, derived and not free (00_scope.md R8). -/
def Params.midTicks (p : Params) : Nat := p.shortTicks + (p.longTicks - p.shortTicks) / 2

/-- RB_LUT(L, j) (00_scope.md R8, 43_color_primitives.md R266); a missing entry reads 0 and `Params.Ok` excludes one
(log entry 12). -/
def Params.lut (p : Params) (l j : Nat) : Nat := (p.rbLut.getD (l - 1) []).getD j 0

/-- The default table: RB_LUT(L, j) = PEAK - (PEAK * j) div L (00_scope.md R8). -/
def linearLut (nTuned peak : Nat) : List (List Nat) :=
  (List.range (nTuned / 3)).map fun k => (List.range (k + 1)).map fun j => peak - peak * j / (k + 1)

/-- The OPEN line timing, any values with 1 ≤ T0H_CYC < T1H_CYC < TBIT_CYC and 1 ≤ TRES_CYC (00_scope.md R8; log
entry 3). -/
def openLine : LineTiming where
  t0h := Config.t0hLessOne + 1
  t1h := Config.t0hLessOne + 1 + Config.t1hGapLessOne + 1
  tbit := Config.t0hLessOne + 1 + Config.t1hGapLessOne + 1 + Config.tbitGapLessOne + 1
  tres := Config.tresLessOne + 1

/-- The defaults of 00_scope.md R8, with the OPEN parameters free (log entries 1 and 3). -/
def Params.defaults : Params where
  n := 18
  nSlots := 12
  nTuned := 18
  peak := 0x80
  rbLut := linearLut 18 0x80
  shortTicks := 10
  longTicks := 100
  demoTicks := 500
  line := openLine
  fClk := Config.fClk
  cmdLat := Config.cmdLatLessOne + 1

/-- The nominal cycle counts at a clock of `fClk` Hz: round(1.25e-6 F_CLK), round(0.8e-6 F_CLK) and
round(0.4e-6 F_CLK) (41_transmitter.md R175), with a half rounded up, and a latch time of the caller's choice. -/
def nominalLine (fClk tres : Nat) : LineTiming where
  tbit := (1250 * fClk + 500000000) / 1000000000
  t1h := (800 * fClk + 500000000) / 1000000000
  t0h := (400 * fClk + 500000000) / 1000000000
  tres := tres

/-- The shape RB_LUT must have: for 1 ≤ L ≤ N_TUNED / 3 a row of L weights that starts at PEAK and strictly decreases
(00_scope.md R8). -/
abbrev Params.LutOk (p : Params) : Prop :=
  ∀ k < p.nTuned / 3,
    (p.rbLut.getD k []).length = k + 1 ∧ p.lut (k + 1) 0 = p.peak ∧ (p.rbLut.getD k []).Pairwise (· > ·)

/-- The constraint column of 00_scope.md R8 and the Open parameters table of 92_eei_decisions.md. -/
abbrev Params.Ok (p : Params) : Prop :=
  4 ≤ p.n ∧ p.n ≤ 32 ∧ 1 ≤ p.nSlots ∧ p.nSlots ≤ 32 ∧
  3 ≤ p.nTuned ∧ p.nTuned ≤ 18 ∧ p.nTuned % 3 = 0 ∧ 1 ≤ p.peak ∧ p.peak ≤ 0xFF ∧ p.LutOk ∧
  1 ≤ p.shortTicks ∧ p.shortTicks + 2 ≤ p.longTicks ∧ p.longTicks ≤ 255 ∧
  1 ≤ p.demoTicks ∧ p.demoTicks ≤ 65535 ∧
  1 ≤ p.line.t0h ∧ p.line.t0h < p.line.t1h ∧ p.line.t1h < p.line.tbit ∧ 1 ≤ p.line.tres ∧ 1 ≤ p.cmdLat

/-- The bits N-1:0 of a word, the others 0 (10_state.md R29, R37). -/
def lowBits (n : Nat) (v : Word) : Word := v &&& BitVec.ofNat 32 (2 ^ n - 1)

/-- The reset value of GROUP_MASKg: bit i is 1 iff i mod 3 = g, for i < N (10_state.md R37). -/
def resetGroupMask (n g : Nat) : Word :=
  (List.range n).foldl (fun m i => if i % 3 = g then m ||| BitVec.ofNat 32 (2 ^ i) else m) 0

/-- The reset palette (10_state.md R39). -/
def resetPalette : Vector Color 8 :=
  #v[0x008000, 0x800000, 0x000080, 0x808080, 0x808000, 0x800080, 0x008080, 0x000000]

/-- The reset slot words of slots 0 to 11 (10_state.md R40). -/
def resetSlotWords : List Word :=
  [0x00000030, 0x000000F0, 0x00000001, 0x00000802, 0x00000403, 0x00010804, 0x00000814, 0x00000805, 0x00000426,
   0x00030406, 0x00401007, 0x004010F8]

/-- SLOT_CFG0 to SLOT_CFG(N_SLOTS - 1) at reset; slots past 11 reset to 0 (10_state.md R40). -/
def resetSlots (nSlots : Nat) : List Word := (List.range nSlots).map fun s => resetSlotWords.getD s 0

end Sys2Proof
end

