-- ==== Sys2Proof/Machine/State.lean ====
section
/-!
DEFINITION. The state of the block as plain data (10_state.md R20 to R43), what its inputs are, the state after reset
(70_reset_and_hazards.md R371), and the reasons a step of the model can stop.
-/

namespace Sys2Proof.Machine

/-- PatternStatus, STATUS.PSTAT (10_state.md R24). -/
inductive PStatus where
  | new
  | refresh
  | noChange
  | fadeDone
  deriving DecidableEq, Repr

/-- The cause held in ERR.CAUSE (60_exceptions.md R330). -/
inductive Cause where
  | none
  | illegal
  | range
  | busy
  | state
  | cfg
  deriving DecidableEq, Repr

/-- DB_STATUS.EVENT (10_state.md R31); the code 3 is never written and has no constructor. -/
inductive PressEvent where
  | none
  | short
  | long
  deriving DecidableEq, Repr

/-- The error record ERR and ERR_INFO (10_state.md R25, R26). -/
structure ErrRecord where
  cause : Cause
  multi : Bool
  info : Word
  deriving DecidableEq, Repr

/-- GEN_STATE and GEN_RCOLOR (10_state.md R35, R36). -/
structure GenState where
  cnt : Byte
  mask : BitVec 3
  phase : BitVec 2
  fadeCnt : Byte
  rcolor : Color
  deriving DecidableEq, Repr

/-- `dout` at one level for a number of clock cycles (41_transmitter.md R174). -/
structure LineRun where
  high : Bool
  cycles : Nat
  deriving DecidableEq, Repr

/-- The transmitter: STATUS.TX_BUSY (10_state.md R24), the hidden TX_POS, TX_LATCH, TX_BITS and FRAMES (R42), and the
output line over the TX engine's last step (R43; log entry 7). -/
structure TxUnit where
  busy : Bool
  pos : Nat
  latch : Bool
  bits : List Bool
  frames : List (List Bool)
  dout : List LineRun
  deriving DecidableEq, Repr

/-- DB_STATUS (10_state.md R31) and the two flops of BTN_SYNC (R42; log entry 6). A flop holds the level of `btn_n`,
so `true` is released. -/
structure DbUnit where
  event : PressEvent
  pending : Bool
  nextReq : Bool
  btn : Bool
  prov : Bool
  cnt : Byte
  sync1 : Bool
  sync2 : Bool
  deriving DecidableEq, Repr

/-- DEMO_CTRL (10_state.md R32). -/
structure DemoUnit where
  en : Bool
  cnt : BitVec 16
  deriving DecidableEq, Repr

/-- The random port: the draws the environment has placed, and how many draws were taken (00_scope.md R15; log
entry 4). -/
structure RandPort where
  placed : List Byte
  taken : Nat
  deriving DecidableEq, Repr

/-- What one agent does in one atomic step (00_scope.md R10; log entry 2). -/
inductive Input where
  /-- `MemRead(a, 4)` by the host (40_host_access.md R140). -/
  | read (a : Addr)
  /-- `MemWrite(a, 4, v)` by the host (40_host_access.md R141). -/
  | write (a : Addr) (v : Word)
  /-- A ticker step with the button sample p (44_debounce_demo.md R290). -/
  | tick (pressed : Bool)
  /-- A turn of the TX engine (41_transmitter.md R176, R177). -/
  | txTurn
  /-- The reset input (70_reset_and_hazards.md R370). -/
  | rst
  deriving DecidableEq, Repr

/-- The whole state: the registers of 10_state.md, the colour buffer, the hidden state, and the model's own fields
`params`, `rdata`, `inputs` and `rand`. -/
structure State where
  /-- The synthesis-time parameters (00_scope.md R8; log entry 1). -/
  params : Params
  /-- ERR and ERR_INFO. -/
  err : ErrRecord
  /-- ARG_COLOR (10_state.md R28). -/
  argColor : Color
  /-- ARG_MASK (10_state.md R29). -/
  argMask : Word
  /-- NZCOUNT.COUNT (10_state.md R30). -/
  nzCount : Byte
  /-- STATUS.DIRTY (10_state.md R24). -/
  dirty : Bool
  /-- STATUS.PSTAT (10_state.md R24). -/
  pstat : PStatus
  /-- STATUS.FADE_ACTIVE (10_state.md R24). -/
  fadeActive : Bool
  /-- STATUS.PAT_IDX (10_state.md R24). -/
  patIdx : BitVec 5
  /-- FADE_DELAY.DELAY (10_state.md R34). -/
  fadeDelay : Byte
  /-- GEN_STATE and GEN_RCOLOR. -/
  gen : GenState
  /-- GROUP_MASK0 to GROUP_MASK2 (10_state.md R37). -/
  groupMasks : Vector Word 3
  /-- PALETTE0 to PALETTE7 (10_state.md R39). -/
  palette : Vector Color 8
  /-- SLOT_CFG0 to SLOT_CFG(N_SLOTS - 1) (10_state.md R40). -/
  slotCfg : List Word
  /-- BUF[0] to BUF[N - 1] (10_state.md R41). -/
  buf : List Color
  /-- The transmitter unit. -/
  tx : TxUnit
  /-- The debounce unit. -/
  db : DbUnit
  /-- The demo counter. -/
  demo : DemoUnit
  /-- The word the last bus read answered (20_memory.md R70; log entry 5). -/
  rdata : Word
  /-- What happens next, oldest first (log entry 2). -/
  inputs : List Input
  /-- The random port. -/
  rand : RandPort
  deriving DecidableEq, Repr

/-- The reset state of a block with parameters `p` (70_reset_and_hazards.md R371), nothing pending at its ports. -/
def State.resetOf (p : Params) : State where
  params := p
  err := ⟨.none, false, 0⟩
  argColor := 0
  argMask := 0
  nzCount := 0
  dirty := false
  pstat := .new
  fadeActive := false
  patIdx := 0
  fadeDelay := 4
  gen := ⟨0, 0, 0, 0, 0⟩
  groupMasks := #v[resetGroupMask p.n 0, resetGroupMask p.n 1, resetGroupMask p.n 2]
  palette := resetPalette
  slotCfg := resetSlots p.nSlots
  buf := List.replicate p.n 0
  tx := ⟨false, 0, false, [], [], []⟩
  db := ⟨.none, false, false, false, false, 0, true, true⟩
  demo := ⟨false, 0⟩
  rdata := 0
  inputs := []
  rand := ⟨[], 0⟩

/-- The machine right after reset (70_reset_and_hazards.md R371), with the default parameters. -/
def State.reset : State := State.resetOf Params.defaults

/-- Why a step of the model is stuck. Both are raised only in states no run reaches (10_state.md R45), and both are
safe: the model stops where the spec gives no step. -/
inductive Fault where
  /-- Raised by a tick that finds DB_CNT > LONG_TICKS: "unreachable and needs no meaning" (10_state.md R45,
  93_implementation_defined.md I13; log entry 9). Safe. -/
  | dbCountAboveLong
  /-- Raised by a TX emit step that finds TX_POS past the frame's last bit (41_transmitter.md R176; log entry 10).
  Safe. -/
  | txPosPastFrame
  deriving DecidableEq, Repr

/-- Why the model has no step. -/
inductive Refusal where
  /-- Raised by `exec` for a command without a meaning. No command is without one. Safe. -/
  | notModelled (mnemonic : String)
  /-- Raised by a bus access with addr[1:0] ≠ 0: "A model refuses an access with addr[1:0] ≠ 0: it has no step for it"
  (20_memory.md R73; log entry 8). Safe. -/
  | misalignedAccess
  deriving DecidableEq, Repr

end Sys2Proof.Machine
end

