-- ==== Sys2Proof/Machine/Operands.lean ====
section
/-!
DEFINITION. Operand forms: the channels of a colour word (30_encoding.md R100), the fields of a slot word (R120 to
R125), the palette and the colour buffer as operands, and the address map (20_memory.md R75).
-/

namespace Sys2Proof.Machine

/-! ### Colour words (30_encoding.md R100) -/

/-- G(c), bits 23:16. -/
def chanG (c : Color) : Byte := c.extractLsb' 16 8

/-- R(c), bits 15:8. -/
def chanR (c : Color) : Byte := c.extractLsb' 8 8

/-- B(c), bits 7:0. -/
def chanB (c : Color) : Byte := c.extractLsb' 0 8

/-- rgb(r, g, b), with G in the most significant byte. -/
def rgb (r g b : Byte) : Color := g ++ r ++ b

/-- The colour word in bits 23:0 of a bus word; bits 31:24 are dropped. -/
def colorOf (v : Word) : Color := v.extractLsb' 0 24

/-! ### Slot words (30_encoding.md R120) -/

/-- The generators (30_encoding.md R121). -/
inductive Kind where
  | solid
  | rainbow
  | breathe
  | wheel
  | flash
  | crazy
  | walk
  | arc
  | ring
  deriving DecidableEq, Repr

/-- KIND, bits 3:0; `none` for the reserved codes 9 to 15 (30_encoding.md R121). -/
def slotKind (w : Word) : Option Kind :=
  let k := w.extractLsb' 0 4
  if k = 0 then some .solid
  else if k = 1 then some .rainbow
  else if k = 2 then some .breathe
  else if k = 3 then some .wheel
  else if k = 4 then some .flash
  else if k = 5 then some .crazy
  else if k = 6 then some .walk
  else if k = 7 then some .arc
  else if k = 8 then some .ring
  else none

/-- COLOR, bits 7:4 (30_encoding.md R122). -/
def slotColor (w : Word) : Nat := (w.extractLsb' 4 4).toNat

/-- PERIOD, bits 15:8. -/
def slotPeriod (w : Word) : Nat := (w.extractLsb' 8 8).toNat

/-- VARIANT bit 0, bit 16 (30_encoding.md R124). -/
def slotVariant0 (w : Word) : Bool := w.getLsbD 16

/-- VARIANT bit 1, bit 17 (30_encoding.md R124). -/
def slotVariant1 (w : Word) : Bool := w.getLsbD 17

/-- SEED, bits 22:20 (30_encoding.md R125). -/
def slotSeed (w : Word) : BitVec 3 := w.extractLsb' 20 3

/-- The storable bits of a SLOT_CFG word, 22:20 and 17:0 (40_host_access.md R141). -/
def slotStorable (v : Word) : Word := v &&& 0x0073FFFF

/-- A palette selector, 0 to 7 (30_encoding.md R122). -/
def paletteSelector (w : Word) : Bool := slotColor w ≤ 7

/-- A palette selector or RANDOM, 15 (30_encoding.md R122). -/
def anySelector (w : Word) : Bool := slotColor w ≤ 7 || slotColor w = 15

/-- PERIOD ≥ 1 (30_encoding.md R123). -/
def periodOk (w : Word) : Bool := 1 ≤ slotPeriod w

/-- SEED ≠ 0 (30_encoding.md R123). -/
def seedOk (w : Word) : Bool := slotSeed w ≠ 0

/-- The validity table of 30_encoding.md R123, reserved kinds invalid (42_pattern_engine.md R204). -/
def slotValid (w : Word) : Bool :=
  match slotKind w with
  | some .solid => anySelector w
  | some .rainbow => true
  | some .breathe => periodOk w
  | some .wheel => periodOk w
  | some .flash => paletteSelector w && periodOk w
  | some .crazy => periodOk w
  | some .walk => anySelector w && periodOk w
  | some .arc => paletteSelector w && periodOk w && seedOk w
  | some .ring => anySelector w && periodOk w && seedOk w
  | none => false

/-! ### Operands held in the state -/

/-- PALETTE[k mod 8] (10_state.md R39, 42_pattern_engine.md R211). -/
def State.paletteAt (s : State) (k : Nat) : Color := s.palette[k % 8]'(Nat.mod_lt k (by decide))

/-- SLOT_CFG[k], 0 where the table has no such slot (10_state.md R40; log entry 13). -/
def State.slotAt (s : State) (k : Nat) : Word := s.slotCfg.getD k 0

/-- The current slot word, SLOT_CFG[STATUS.PAT_IDX] (30_encoding.md R111). -/
def State.cfg (s : State) : Word := s.slotAt s.patIdx.toNat

/-- BUF[i], 0 past the buffer's end (10_state.md R41; log entry 13). -/
def State.led (s : State) (i : Nat) : Color := s.buf.getD i 0

/-! ### The address map (20_memory.md R75) -/

/-- The registers of the map. -/
inductive Reg where
  | info
  | status
  | err
  | errInfo
  | cmd
  | argColor
  | argMask
  | nzCount
  | dbStatus
  | demoCtrl
  | fadeDelay
  | genState
  | genRcolor
  | dbParam
  | demoParam
  | groupMask (g : Fin 3)
  | palette (k : Fin 8)
  | slotCfg (k : Nat)
  | buf (i : Nat)
  | reserved
  deriving DecidableEq, Repr

/-- The register at a byte address (20_memory.md R75, R76). SLOT_CFG and BUF carry their index in the window, 0 to 31,
whether or not the block has that slot or LED. -/
def regAt (a : Addr) : Reg :=
  let off := a.toNat
  if off = 0x000 then .info
  else if off = 0x004 then .status
  else if off = 0x008 then .err
  else if off = 0x00C then .errInfo
  else if off = 0x010 then .cmd
  else if off = 0x014 then .argColor
  else if off = 0x018 then .argMask
  else if off = 0x01C then .nzCount
  else if off = 0x020 then .dbStatus
  else if off = 0x024 then .demoCtrl
  else if off = 0x028 then .fadeDelay
  else if off = 0x02C then .genState
  else if off = 0x030 then .genRcolor
  else if off = 0x034 then .dbParam
  else if off = 0x038 then .demoParam
  else if off = 0x040 then .groupMask 0
  else if off = 0x044 then .groupMask 1
  else if off = 0x048 then .groupMask 2
  else if 0x060 ≤ off ∧ off < 0x080 then .palette ⟨(off - 0x060) / 4 % 8, Nat.mod_lt _ (by decide)⟩
  else if 0x080 ≤ off ∧ off < 0x100 then .slotCfg ((off - 0x080) / 4)
  else if 0x100 ≤ off ∧ off < 0x180 then .buf ((off - 0x100) / 4)
  else .reserved

/-- An access the model takes: addr[1:0] = 0 (20_memory.md R73). -/
def aligned (a : Addr) : Bool := a.extractLsb' 0 2 = 0

end Sys2Proof.Machine
end

