-- ==== Sys2Proof/Machine/Flags.lean ====
section
/-!
DEFINITION. The codes of the status fields, the words in which software reads them (10_state.md R23 to R36), and who
sets the frame-dirty flag (R44).
-/

namespace Sys2Proof.Machine

/-- The code of PSTAT (10_state.md R24). -/
def PStatus.code : PStatus → BitVec 2
  | .new => 0
  | .refresh => 1
  | .noChange => 2
  | .fadeDone => 3

/-- The code of CAUSE (60_exceptions.md R330). -/
def Cause.code : Cause → BitVec 4
  | .none => 0
  | .illegal => 1
  | .range => 2
  | .busy => 3
  | .state => 4
  | .cfg => 5

/-- The code of EVENT (10_state.md R31). -/
def PressEvent.code : PressEvent → BitVec 2
  | .none => 0
  | .short => 1
  | .long => 2

/-- A flag as one bit. -/
def flagBit (b : Bool) : BitVec 1 := BitVec.ofBool b

/-- INFO (10_state.md R23). -/
def infoWord (p : Params) : Word :=
  BitVec.ofNat 8 p.peak ++ BitVec.ofNat 8 p.nTuned ++ BitVec.ofNat 8 p.nSlots ++ BitVec.ofNat 8 p.n

/-- STATUS (10_state.md R24). -/
def State.statusWord (s : State) : Word :=
  (0 : BitVec 19) ++ s.patIdx ++ (0 : BitVec 3) ++ flagBit s.fadeActive ++ s.pstat.code ++ flagBit s.dirty ++
    flagBit s.tx.busy

/-- ERR (10_state.md R25). -/
def ErrRecord.word (e : ErrRecord) : Word :=
  (0 : BitVec 23) ++ flagBit e.multi ++ (0 : BitVec 4) ++ e.cause.code

/-- DB_STATUS (10_state.md R31). -/
def DbUnit.word (d : DbUnit) : Word :=
  (0 : BitVec 16) ++ d.cnt ++ (0 : BitVec 2) ++ flagBit d.prov ++ flagBit d.btn ++ flagBit d.nextReq ++
    flagBit d.pending ++ d.event.code

/-- DEMO_CTRL (10_state.md R32). -/
def DemoUnit.word (d : DemoUnit) : Word := d.cnt ++ (0 : BitVec 15) ++ flagBit d.en

/-- DB_PARAM (10_state.md R33). -/
def dbParamWord (p : Params) : Word :=
  (0 : BitVec 8) ++ BitVec.ofNat 8 p.longTicks ++ BitVec.ofNat 8 p.midTicks ++ BitVec.ofNat 8 p.shortTicks

/-- DEMO_PARAM (10_state.md R33). -/
def demoParamWord (p : Params) : Word := (0 : BitVec 16) ++ BitVec.ofNat 16 p.demoTicks

/-- GEN_STATE (10_state.md R35). -/
def GenState.word (g : GenState) : Word :=
  (0 : BitVec 8) ++ g.fadeCnt ++ (0 : BitVec 2) ++ g.phase ++ (0 : BitVec 1) ++ g.mask ++ g.cnt

/-- STATUS.DIRTY <- 1 (10_state.md R44). -/
def State.markDirty (s : State) : State := { s with dirty := true }

/-- The end of a STEP that returned `r`: PSTAT <- r, and DIRTY <- 1 if r is Refresh (42_pattern_engine.md R203). -/
def State.recordStatus (s : State) (r : PStatus) : State :=
  { s with pstat := r, dirty := if r = .refresh then true else s.dirty }

end Sys2Proof.Machine
end

