-- ==== Sys2Proof/Machine/Ops.lean ====
section
/-!
DEFINITION. The named operations: raising an error and clearing the record (60_exceptions.md R333, R336), the shape
every command shares (40_host_access.md R146), drawing from the random source (00_scope.md R15), and the colour-buffer
primitives (43_color_primitives.md).
-/

namespace Sys2Proof.Machine

/-- What an agent's step answers. -/
abbrev Result := Host.Outcome State Fault Refusal

/-! ### Errors: the block's one exception mechanism (60_exceptions.md) -/

/-- `record(cause, info)`: the first error is kept whole, a later one only sets MULTI (60_exceptions.md R333). -/
def ErrRecord.record (e : ErrRecord) (c : Cause) (info : Word) : ErrRecord :=
  if e.cause = .none then { e with cause := c, info := info } else { e with multi := true }

/-- `raise Error(cause, info)`: record it and change nothing else (60_exceptions.md R333, R335). -/
def State.raise (s : State) (c : Cause) (info : Word) : State := { s with err := s.err.record c info }

/-- Clearing the error record, the analogue of a return (60_exceptions.md R336). -/
def State.clearErr (s : State) : State := { s with err := ⟨.none, false, 0⟩ }

/-- ERR_INFO of a rejected BUF write, 0xFF000000 | zext_32(addr) (10_state.md R26). -/
def bufErrInfo (a : Addr) : Word := 0xFF000000 ||| a.setWidth 32

/-- Every command but NOP: BUSY while a frame is in flight, else the command's own rule (40_host_access.md R146,
60_exceptions.md R334). The word in ERR_INFO is the command's own encoding (log entry 11). -/
def unlessBusy (i : Instr) (s : State) (body : State) : Result :=
  .next (if s.tx.busy then s.raise .busy (encode i) else body)

/-! ### The random source (00_scope.md R15) -/

/-- The k-th draw from now: what the environment placed, else a free value (log entry 4). -/
def RandPort.draw (r : RandPort) (k : Nat) : Byte :=
  match r.placed[k]? with
  | some b => b
  | none => Config.freeDraw (r.taken + k)

/-- `k` draws are taken. -/
def RandPort.advance (r : RandPort) (k : Nat) : RandPort := ⟨r.placed.drop k, r.taken + k⟩

/-- `DrawColor()` number j from now: three draws, G, R, B (00_scope.md R15). -/
def RandPort.drawColor (r : RandPort) (j : Nat) : Color :=
  rgb (r.draw (3 * j + 1)) (r.draw (3 * j)) (r.draw (3 * j + 2))

/-! ### The colour buffer (43_color_primitives.md) -/

/-- BUF[i] <- f i for every i in 0..<N. -/
def State.paint (s : State) (f : Nat → Color) : State := { s with buf := (List.range s.params.n).map f }

/-- `fill_all(c)` (43_color_primitives.md R251). -/
def State.fillAll (s : State) (c : Color) : State := s.paint fun _ => c

/-- BUF[i] <- c for every i in 0..<N that is in a set (43_color_primitives.md R252, R253). -/
def State.fillWhere (s : State) (member : Nat → Bool) (c : Color) : State :=
  s.paint fun i => if member i then c else s.led i

/-- `fill_range(lo, hi, c)`, both ends included (43_color_primitives.md R252). -/
def State.fillRange (s : State) (lo hi : Nat) (c : Color) : State :=
  s.fillWhere (fun i => decide (lo ≤ i ∧ i ≤ hi)) c

/-- `fill_set(m, c)` (43_color_primitives.md R253). -/
def State.fillSet (s : State) (m : Word) (c : Color) : State := s.fillWhere (fun i => m.getLsbD i) c

/-- `rotate1()`, one position toward higher indices (43_color_primitives.md R254). -/
def State.rotate1 (s : State) : State :=
  s.paint fun i => if i = 0 then s.led (s.params.n - 1) else s.led (i - 1)

/-- `rotate(k)`: `rotate1()` k times (43_color_primitives.md R255). -/
def State.rotate (s : State) : Nat → State
  | 0 => s
  | k + 1 => s.rotate1.rotate k

/-- One colour word with each channel halved toward zero (43_color_primitives.md R262). -/
def halveColor (c : Color) : Color := rgb (chanR c >>> 1) (chanG c >>> 1) (chanB c >>> 1)

/-- How many channels of a colour word are not zero (43_color_primitives.md R262). -/
def litChannels (c : Color) : Nat :=
  (if chanG c ≠ 0 then 1 else 0) + (if chanR c ≠ 0 then 1 else 0) + (if chanB c ≠ 0 then 1 else 0)

/-- How many channels of the whole buffer are not zero. -/
def State.litCount (s : State) : Nat := ((List.range s.params.n).map fun i => litChannels (s.led i)).sum

/-- `halve()`: the buffer halved, NZCOUNT <- nz, and nz (43_color_primitives.md R262). -/
def State.halve (s : State) : State × Nat :=
  let t := s.paint fun i => halveColor (s.led i)
  ({ t with nzCount := BitVec.ofNat 8 t.litCount }, t.litCount)

/-- `rainbow_color(p)` for the parameters (43_color_primitives.md R266). -/
def rainbowColor (p : Params) (pos : Nat) : Color :=
  let l := min p.n p.nTuned / 3
  let a := BitVec.ofNat 8 (p.lut l (pos % l))
  let b := BitVec.ofNat 8 (p.peak - p.lut l (pos % l))
  if 3 * l ≤ pos then 0
  else if pos / l = 0 then rgb a b 0
  else if pos / l = 1 then rgb 0 a b
  else rgb b 0 a

/-- `rainbow()` (43_color_primitives.md R266). -/
def State.rainbow (s : State) : State :=
  s.paint fun i => rainbowColor s.params (i % min s.params.n s.params.nTuned)

/-- `random_fill()`: LED i gets DrawColor number i, and 3N draws are taken (43_color_primitives.md R270). -/
def State.randomFill (s : State) : State :=
  { s.paint (fun i => s.rand.drawColor i) with rand := s.rand.advance (3 * s.params.n) }

/-- GEN_RCOLOR <- DrawColor() (42_pattern_engine.md R215, R217). -/
def State.drawRcolor (s : State) : State :=
  { s with gen := { s.gen with rcolor := s.rand.drawColor 0 }, rand := s.rand.advance 3 }

end Sys2Proof.Machine
end

