-- ==== Sys2Proof/Machine/Debounce.lean ====
section
/-!
DEFINITION. The debounce unit and the demo counter (44_debounce_demo.md): the tick step, the acknowledge writes and the
DEMO_CTRL write.
-/

namespace Sys2Proof.Machine

/-- BTN_SYNC settled at the button's level, then DB_STATUS.BTN <- p, where p is 1 when the synchroniser's output is 0
(44_debounce_demo.md R291, R292; log entry 6). -/
def DbUnit.sample (d : DbUnit) (level : Bool) : DbUnit :=
  let e := { d with sync1 := level, sync2 := level }
  { e with btn := !e.sync2 }

/-- `emit(e)` (44_debounce_demo.md R297). -/
def DbUnit.emit (d : DbUnit) (e : PressEvent) : DbUnit := { d with event := e, pending := true }

/-- DB_CNT <- DB_CNT + 1. -/
def DbUnit.count (d : DbUnit) : DbUnit := { d with cnt := d.cnt + 1 }

/-- DB_CNT <- 0; PROV <- 0. -/
def DbUnit.idle (d : DbUnit) : DbUnit := { d with cnt := 0, prov := false }

/-- `db_fsm(p)` (44_debounce_demo.md R292 to R298), with the sample in BTN; `none` where DB_CNT > LONG_TICKS (log
entry 9). -/
def DbUnit.fsm (pr : Params) (d : DbUnit) : Option DbUnit :=
  let c := d.cnt.toNat
  let p := d.btn
  if c = 0 then some (if p = true ∧ d.pending = false then { d with cnt := 1 } else d)
  else if c < pr.shortTicks then some d.count
  else if c = pr.shortTicks then some (if p then { d with prov := true } else d).count
  else if c < pr.midTicks then some d.count
  else if c = pr.midTicks then some (if d.prov = true ∧ p = false then (d.emit .short).idle else d.count)
  else if c < pr.longTicks then some d.count
  else if c = pr.longTicks then
    some (if p then d.emit .long else if d.prov then d.emit .short else d).idle
  else none

/-- The demo counter of `demo_tick()`, and whether it requests the next pattern (44_debounce_demo.md R302). -/
def DemoUnit.tick (demoTicks : Nat) (d : DemoUnit) : DemoUnit × Bool :=
  if d.en then
    if demoTicks ≤ (d.cnt + 1).toNat then ({ d with cnt := 0 }, true) else ({ d with cnt := d.cnt + 1 }, false)
  else (d, false)

/-- `tick_step(p)`: the sample, the FSM, then the demo counter (44_debounce_demo.md R292). -/
def tickStep (pressed : Bool) (s : State) : Result :=
  match (s.db.sample (!pressed)).fsm s.params with
  | none => .fault .dbCountAboveLong
  | some d =>
    let r := s.demo.tick s.params.demoTicks
    .next { s with db := { d with nextReq := d.nextReq || r.2 }, demo := r.1 }

/-- A write to DB_STATUS: bit 2 acknowledges the event, bit 3 the next-pattern request (44_debounce_demo.md R300, R304,
40_host_access.md R145). -/
def State.ackWrite (s : State) (v : Word) : State :=
  { s with
    db :=
      { s.db with
        event := if v.getLsbD 2 then .none else s.db.event
        pending := s.db.pending && !v.getLsbD 2
        nextReq := s.db.nextReq && !v.getLsbD 3 } }

/-- A write to DEMO_CTRL: DEMO_EN <- v[0], DEMO_CNT <- 0 (44_debounce_demo.md R303). -/
def State.demoWrite (s : State) (v : Word) : State := { s with demo := ⟨v.getLsbD 0, 0⟩ }

end Sys2Proof.Machine
end

