-- ==== Sys2Proof/Machine/Buffer.lean ====
section
/-!
DEFINITION. The seven buffer commands (43_color_primitives.md R250): the primitive, then STATUS.DIRTY <- 1.
-/

namespace Sys2Proof.Machine

/-- FILL_ALL (43_color_primitives.md R251). -/
def execFillAll (s : State) : Result := unlessBusy .fillAll s (s.fillAll s.argColor).markDirty

/-- FILL_RANGE lo, hi (43_color_primitives.md R252): RANGE if lo > hi or hi ≥ N. -/
def execFillRange (lo hi : Nat) (s : State) : Result :=
  unlessBusy (.fillRange lo hi) s
    (if hi < lo ∨ s.params.n ≤ hi then s.raise .range (encode (.fillRange lo hi))
     else (s.fillRange lo hi s.argColor).markDirty)

/-- FILL_MASK (43_color_primitives.md R253). -/
def execFillMask (s : State) : Result := unlessBusy .fillMask s (s.fillSet s.argMask s.argColor).markDirty

/-- ROTATE k (43_color_primitives.md R255). -/
def execRotate (k : Nat) (s : State) : Result := unlessBusy (.rotate k) s (s.rotate k).markDirty

/-- HALVE (43_color_primitives.md R263). -/
def execHalve (s : State) : Result := unlessBusy .halve s s.halve.1.markDirty

/-- RAINBOW (43_color_primitives.md R267). -/
def execRainbow (s : State) : Result := unlessBusy .rainbow s s.rainbow.markDirty

/-- RANDOM_FILL (43_color_primitives.md R271). -/
def execRandomFill (s : State) : Result := unlessBusy .randomFill s s.randomFill.markDirty

end Sys2Proof.Machine
end

