-- ==== Sys2Proof/Machine/HostAccess.lean ====
section
/-!
DEFINITION. The host's bus read (40_host_access.md R140, R144) and the command that the section gives, NOP (R147).
-/

namespace Sys2Proof.Machine

/-- NOP (40_host_access.md R147): accepted while a frame is in flight, and changes nothing. -/
def execNop (s : State) : Result := .next s

/-- The word a register reads as, reserved bits 0 (40_host_access.md R140, R144). -/
def State.readReg (s : State) : Reg → Word
  | .info => infoWord s.params
  | .status => s.statusWord
  | .err => s.err.word
  | .errInfo => s.err.info
  | .cmd => 0
  | .argColor => s.argColor.setWidth 32
  | .argMask => s.argMask
  | .nzCount => s.nzCount.setWidth 32
  | .dbStatus => s.db.word
  | .demoCtrl => s.demo.word
  | .fadeDelay => s.fadeDelay.setWidth 32
  | .genState => s.gen.word
  | .genRcolor => s.gen.rcolor.setWidth 32
  | .dbParam => dbParamWord s.params
  | .demoParam => demoParamWord s.params
  | .groupMask g => s.groupMasks[g]
  | .palette k => s.palette[k].setWidth 32
  | .slotCfg k => if k < s.params.nSlots then s.slotAt k else 0
  | .buf i => if i < s.params.n then (s.led i).setWidth 32 else 0
  | .reserved => 0

/-- `MemRead(a, 4)` (40_host_access.md R140). -/
def State.busRead (s : State) (a : Addr) : Word := s.readReg (regAt a)

/-- A host read: the word is answered and nothing else changes (20_memory.md R77). A misaligned address is refused
(R73; log entry 8). -/
def hostRead (a : Addr) (s : State) : Result :=
  if aligned a then .next { s with rdata := s.busRead a } else .refused .misalignedAccess

end Sys2Proof.Machine
end

