-- ==== Sys2Proof/Machine/Pattern.lean ====
section
/-!
DEFINITION. The pattern engine (42_pattern_engine.md): SELECT, FADE_START, and STEP with its checks, its nine
generators and the fade-out transition. A generator takes the state and answers the state it leaves and its status.
-/

namespace Sys2Proof.Machine

/-- SELECT slot (42_pattern_engine.md R200): RANGE if slot ≥ N_SLOTS. -/
def execSelect (slot : Nat) (s : State) : Result :=
  unlessBusy (.select slot) s
    (if s.params.nSlots ≤ slot then s.raise .range (encode (.select slot))
     else { s with patIdx := BitVec.ofNat 5 slot, pstat := .new, fadeActive := false })

/-- FADE_START (42_pattern_engine.md R201). -/
def execFadeStart (s : State) : Result := unlessBusy .fadeStart s { s with fadeActive := true, pstat := .new }

/-! ### What the generators share -/

/-- GEN_STATE.CNT <- v. -/
def State.setCnt (s : State) (v : Byte) : State := { s with gen := { s.gen with cnt := v } }

/-- GEN_STATE.MASK <- v. -/
def State.setMask (s : State) (v : BitVec 3) : State := { s with gen := { s.gen with mask := v } }

/-- GEN_STATE.PHASE <- v. -/
def State.setPhase (s : State) (v : BitVec 2) : State := { s with gen := { s.gen with phase := v } }

/-- GEN_STATE.FADE_CNT <- v. -/
def State.setFadeCnt (s : State) (v : Byte) : State := { s with gen := { s.gen with fadeCnt := v } }

/-- `cadence(P)`: the state with CNT advanced, and whether the generator acts (42_pattern_engine.md R206). -/
def State.cadence (s : State) (period : Nat) : State × Bool :=
  if period ≤ (s.gen.cnt + 1).toNat then (s.setCnt 0, true) else (s.setCnt (s.gen.cnt + 1), false)

/-- A non-New STEP: on a cadence tick the generator's action and Refresh, else NoChange (42_pattern_engine.md R206,
R202). -/
def State.onCadence (s : State) (period : Nat) (act : State → State) : State × PStatus :=
  let r := s.cadence period
  if r.2 then (act r.1, .refresh) else (r.1, .noChange)

/-- Halve, and refill when no channel is left (42_pattern_engine.md R209, R213, R214). -/
def State.halveOrRefill (s : State) (refill : State → State) : State :=
  let r := s.halve
  if r.2 = 0 then refill r.1 else r.1

/-! ### The generators -/

/-- SOLID (42_pattern_engine.md R207). -/
def genSolid (w : Word) (s : State) : PStatus → State × PStatus
  | .new => (if slotColor w = 15 then (s.setCnt 0).randomFill else (s.setCnt 0).fillAll (s.paletteAt (slotColor w)),
      .refresh)
  | _ => (s, .noChange)

/-- RAINBOW, the static form (42_pattern_engine.md R208). -/
def genRainbow (s : State) : PStatus → State × PStatus
  | .new => ((s.setCnt 0).rainbow, .refresh)
  | _ => (s, .noChange)

/-- BREATHE (42_pattern_engine.md R209). -/
def genBreathe (w : Word) (s : State) : PStatus → State × PStatus
  | .new => ((s.setCnt 0).rainbow, .refresh)
  | _ => s.onCadence (slotPeriod w) fun t => t.halveOrRefill State.rainbow

/-- WHEEL (42_pattern_engine.md R210). -/
def genWheel (w : Word) (s : State) : PStatus → State × PStatus
  | .new => ((s.setCnt 0).rainbow, .refresh)
  | _ => s.onCadence (slotPeriod w) fun t => t.rotate 3

/-- K, the number of colours of FLASH (42_pattern_engine.md R211, 30_encoding.md R124). -/
def flashColors (w : Word) : Nat := if slotVariant0 w then 3 else 2

/-- `flash_fill()` (42_pattern_engine.md R211). -/
def State.flashFill (s : State) (w : Word) : State :=
  s.paint fun i => s.paletteAt (slotColor w + (i + s.gen.phase.toNat) % flashColors w)

/-- The re-fill of FLASH: PHASE <- (PHASE + 1) mod K, then flash_fill (42_pattern_engine.md R213). -/
def State.flashRefill (w : Word) (s : State) : State :=
  (s.setPhase (BitVec.ofNat 2 ((s.gen.phase.toNat + 1) % flashColors w))).flashFill w

/-- FLASH (42_pattern_engine.md R211 to R213). -/
def genFlash (w : Word) (s : State) : PStatus → State × PStatus
  | .new => (((s.setCnt 0).setPhase 0).flashFill w, .refresh)
  | _ => s.onCadence (slotPeriod w) fun t => t.halveOrRefill (State.flashRefill w)

/-- CRAZY (42_pattern_engine.md R214). -/
def genCrazy (w : Word) (s : State) : PStatus → State × PStatus
  | .new => ((s.setCnt 0).randomFill, .refresh)
  | _ => s.onCadence (slotPeriod w) fun t => t.halveOrRefill State.randomFill

/-- Draw GEN_RCOLOR where the selector is RANDOM (42_pattern_engine.md R215, R217). -/
def State.drawIfRandom (s : State) (w : Word) : State := if slotColor w = 15 then s.drawRcolor else s

/-- The one colour of WALK and RING: GEN_RCOLOR if COLOR = 15, else PALETTE[COLOR] (42_pattern_engine.md R215, R217). -/
def State.slotHue (s : State) (w : Word) : Color :=
  if slotColor w = 15 then s.gen.rcolor else s.paletteAt (slotColor w)

/-- The LEDs of the walking segment (42_pattern_engine.md R215). -/
def walkSegment (n : Nat) (w : Word) : List Nat :=
  if slotVariant0 w then [0, 1, n / 2, n / 2 + 1] else [0, n / 2]

/-- How far WALK rotates (42_pattern_engine.md R215). -/
def walkStride (w : Word) : Nat := if slotVariant1 w then 3 else 1

/-- WALK (42_pattern_engine.md R215). -/
def genWalk (w : Word) (s : State) : PStatus → State × PStatus
  | .new =>
    let t := (s.setCnt 0).drawIfRandom w
    ((t.fillAll 0).fillWhere (fun i => (walkSegment s.params.n w).contains i) (t.slotHue w), .refresh)
  | _ => s.onCadence (slotPeriod w) fun t => t.rotate (walkStride w)

/-- One group of the reveal step: its colour if its bit of MASK is set, else black (42_pattern_engine.md R218). -/
def State.revealGroup (s : State) (member : Nat → Bool) (on : Bool) (c : Color) : State :=
  s.fillWhere member (if on then c else 0)

/-- `reveal_step(group, col)`: re-seed a zero MASK, else shift it, then write groups 0, 1, 2 in order
(42_pattern_engine.md R218). -/
def State.revealStep (s : State) (seed : BitVec 3) (group : Nat → Nat → Bool) (col : Nat → Color) : State :=
  let m := if s.gen.mask = 0 then seed else s.gen.mask >>> 1
  (((s.setMask m).revealGroup (group 0) (m.getLsbD 0) (col 0)).revealGroup (group 1) (m.getLsbD 1) (col 1)).revealGroup
    (group 2) (m.getLsbD 2) (col 2)

/-- Membership in arc(g), the thirds of the chain (42_pattern_engine.md R216). -/
def arcGroup (n g i : Nat) : Bool :=
  match g with
  | 0 => i < n / 3
  | 1 => n / 3 ≤ i && i < 2 * (n / 3)
  | _ => 2 * (n / 3) ≤ i && i < n

/-- ARC (42_pattern_engine.md R216). -/
def genArc (w : Word) (s : State) : PStatus → State × PStatus
  | .new =>
    ((((s.setCnt 0).setMask (slotSeed w)).fillAll 0).fillWhere (arcGroup s.params.n 2) (s.paletteAt (slotColor w + 2)),
      .refresh)
  | _ => s.onCadence (slotPeriod w) fun t =>
      t.revealStep (slotSeed w) (arcGroup t.params.n) fun g => t.paletteAt (slotColor w + g)

/-- Membership in ring(g), GROUP_MASKg (42_pattern_engine.md R217). -/
def State.ringGroup (s : State) (g i : Nat) : Bool := (s.groupMasks[g % 3]'(Nat.mod_lt g (by decide))).getLsbD i

/-- RING (42_pattern_engine.md R217). -/
def genRing (w : Word) (s : State) : PStatus → State × PStatus
  | .new =>
    let t := ((s.setCnt 0).drawIfRandom w).setMask (slotSeed w)
    ((t.fillAll 0).fillWhere (t.ringGroup 2) (t.slotHue w), .refresh)
  | _ => s.onCadence (slotPeriod w) fun t => t.revealStep (slotSeed w) t.ringGroup fun _ => t.slotHue w

/-- `gen_step(cfg, prev)` (42_pattern_engine.md R205). A reserved kind never reaches it (R204). -/
def genStep (w : Word) (s : State) (prev : PStatus) : State × PStatus :=
  match slotKind w with
  | some .solid => genSolid w s prev
  | some .rainbow => genRainbow s prev
  | some .breathe => genBreathe w s prev
  | some .wheel => genWheel w s prev
  | some .flash => genFlash w s prev
  | some .crazy => genCrazy w s prev
  | some .walk => genWalk w s prev
  | some .arc => genArc w s prev
  | some .ring => genRing w s prev
  | none => (s, prev)

/-! ### The fade-out transition -/

/-- A fade halving and its status (42_pattern_engine.md R220). -/
def State.fadeHalve (s : State) : State × PStatus :=
  let r := (s.setFadeCnt 0).halve
  (r.1, if r.2 = 0 then .fadeDone else .refresh)

/-- `fade_step(prev)` (42_pattern_engine.md R220). -/
def fadeStep (s : State) (prev : PStatus) : State × PStatus :=
  if prev = .new then s.fadeHalve
  else if s.fadeDelay.toNat ≤ (s.gen.fadeCnt + 1).toNat then s.fadeHalve
  else (s.setFadeCnt (s.gen.fadeCnt + 1), .noChange)

/-! ### STEP -/

/-- `check_step`: the first cause that rejects a STEP, if any (42_pattern_engine.md R204). -/
def State.stepCheck (s : State) : Option Cause :=
  if s.pstat = .fadeDone then some .state
  else if s.fadeActive then (if s.fadeDelay = 0 then some .cfg else none)
  else if slotValid s.cfg then none
  else some .cfg

/-- One generator call: the fade while FADE_ACTIVE, else the current slot's kind (42_pattern_engine.md R203). -/
def State.generate (s : State) : State × PStatus :=
  if s.fadeActive then fadeStep s s.pstat else genStep s.cfg s s.pstat

/-- STEP (42_pattern_engine.md R203). -/
def execStep (s : State) : Result :=
  unlessBusy .step s
    (match s.stepCheck with
     | some c => s.raise c (encode .step)
     | none => s.generate.1.recordStatus s.generate.2)

end Sys2Proof.Machine
end

