-- ==== Sys2Proof/Machine/Transmit.lean ====
section
/-!
DEFINITION. The one-wire transmitter (41_transmitter.md): TRANSMIT, the bits of a frame, the waveform of a slot, and
the two steps of the TX engine.
-/

namespace Sys2Proof.Machine

/-- TRANSMIT (41_transmitter.md R171). -/
def execTransmit (s : State) : Result :=
  unlessBusy .transmit s
    { s with dirty := false, tx := { s.tx with busy := true, pos := 0, latch := false, bits := [] } }

/-- The 24 bits of a colour word from bit 23 down to bit 0 (41_transmitter.md R173). -/
def colorBits (c : Color) : List Bool := (List.range 24).map fun j => c.getLsbD (23 - j)

/-- `frame_bits(BUF)` (41_transmitter.md R173). -/
def State.frameBits (s : State) : List Bool := (List.range s.params.n).flatMap fun i => colorBits (s.led i)

/-- The slot of one bit on `dout`: a high phase, then a low phase (41_transmitter.md R174). -/
def slotWave (l : LineTiming) (b : Bool) : List LineRun :=
  if b then [⟨true, l.t1h⟩, ⟨false, l.tbit - l.t1h⟩] else [⟨true, l.t0h⟩, ⟨false, l.tbit - l.t0h⟩]

/-- The latch period on `dout`: low for TRES_CYC cycles (41_transmitter.md R177). -/
def latchWave (l : LineTiming) : List LineRun := [⟨false, l.tres⟩]

/-- The emit step's new TX state, for the bit sent (41_transmitter.md R176). -/
def State.emitBit (s : State) (b : Bool) : State :=
  { s with
    tx :=
      { s.tx with
        bits := s.tx.bits ++ [b]
        pos := s.tx.pos + 1
        latch := decide (s.tx.pos + 1 = 24 * s.params.n)
        dout := slotWave s.params.line b } }

/-- The latch step (41_transmitter.md R177). -/
def State.latchFrame (s : State) : State :=
  { s with
    tx :=
      { busy := false, pos := 0, latch := false, bits := [], frames := s.tx.frames ++ [s.tx.bits],
        dout := latchWave s.params.line } }

/-- A turn of the TX engine: the emit step or the latch step, whichever it may take, else nothing (41_transmitter.md
R176, R177; log entries 10 and 18). -/
def txTurn (s : State) : Result :=
  if s.tx.busy then
    if s.tx.latch then .next s.latchFrame
    else
      match s.frameBits[s.tx.pos]? with
      | some b => .next (s.emitBit b)
      | none => .fault .txPosPastFrame
  else .next s

end Sys2Proof.Machine
end

