-- ==== Sys2Proof/Machine/Dispatch.lean ====
section
/-!
DEFINITION. Running one command: every constructor of Instr to its meaning (30_encoding.md R112, 40_host_access.md
R146).
-/

namespace Sys2Proof.Machine

def exec (i : Instr) (s : State) : Host.Outcome State Fault Refusal :=
  match i with
  | .nop => Sys2Proof.Machine.execNop s
  | .fillAll => Sys2Proof.Machine.execFillAll s
  | .fillRange lo hi => Sys2Proof.Machine.execFillRange lo hi s
  | .fillMask => Sys2Proof.Machine.execFillMask s
  | .rotate k => Sys2Proof.Machine.execRotate k s
  | .halve => Sys2Proof.Machine.execHalve s
  | .rainbow => Sys2Proof.Machine.execRainbow s
  | .randomFill => Sys2Proof.Machine.execRandomFill s
  | .select slot => Sys2Proof.Machine.execSelect slot s
  | .fadeStart => Sys2Proof.Machine.execFadeStart s
  | .step => Sys2Proof.Machine.execStep s
  | .transmit => Sys2Proof.Machine.execTransmit s

end Sys2Proof.Machine
end

