-- ==== Sys2Proof/Machine/Bus.lean ====
section
/-!
DEFINITION. The host's bus write (40_host_access.md R141 to R148), what each agent's input does, and the reset step.
-/

namespace Sys2Proof.Machine

/-- `execute(w)`: a word that decodes to ILLEGAL raises it before every other check, any other word runs its command
(40_host_access.md R146, 30_encoding.md R113). -/
def execute (w : Word) (s : State) : Result :=
  match decode w with
  | .ok i => exec i s
  | .error _ => .next (s.raise .illegal w)

/-- A write to BUF[i] at address `a` (40_host_access.md R142, R143): BUSY, then RANGE, else the word and DIRTY. -/
def State.bufWrite (s : State) (a : Addr) (i : Nat) (v : Word) : State :=
  if s.tx.busy then s.raise .busy (bufErrInfo a)
  else if s.params.n ≤ i then s.raise .range (bufErrInfo a)
  else { s with buf := s.buf.set i (colorOf v), dirty := true }

/-- A write of `v` to a register at address `a` (40_host_access.md R141, R148). -/
def writeReg (a : Addr) (v : Word) (s : State) : Reg → Result
  | .err => .next s.clearErr
  | .cmd => execute v s
  | .argColor => .next { s with argColor := colorOf v }
  | .argMask => .next { s with argMask := lowBits s.params.n v }
  | .dbStatus => .next (s.ackWrite v)
  | .demoCtrl => .next (s.demoWrite v)
  | .fadeDelay => .next { s with fadeDelay := v.extractLsb' 0 8 }
  | .groupMask g => .next { s with groupMasks := s.groupMasks.set g (lowBits s.params.n v) }
  | .palette k => .next { s with palette := s.palette.set k (colorOf v) }
  | .slotCfg k =>
    .next (if k < s.params.nSlots then { s with slotCfg := s.slotCfg.set k (slotStorable v) } else s)
  | .buf i => .next (s.bufWrite a i v)
  | .info => .next s
  | .status => .next s
  | .errInfo => .next s
  | .nzCount => .next s
  | .genState => .next s
  | .genRcolor => .next s
  | .dbParam => .next s
  | .demoParam => .next s
  | .reserved => .next s

/-- `MemWrite(a, 4, v)` by the host (40_host_access.md R141). A misaligned address is refused (20_memory.md R73; log
entry 8). -/
def hostWrite (a : Addr) (v : Word) (s : State) : Result :=
  if aligned a then writeReg a v s (regAt a) else .refused .misalignedAccess

/-- Reset as one step (70_reset_and_hazards.md R370): every piece of the block's state at its reset value. The
parameters, what the environment has yet to do and the random port are not the block's and stay (log entry 15). -/
def State.resetStep (s : State) : State :=
  { State.resetOf s.params with inputs := s.inputs, rand := s.rand }

/-- What one input does (00_scope.md R10). -/
def perform : Input → State → Result
  | .read a, s => hostRead a s
  | .write a v, s => hostWrite a v s
  | .tick p, s => tickStep p s
  | .txTurn, s => Sys2Proof.Machine.txTurn s
  | .rst, s => .next s.resetStep

/-- The address of CMD (20_memory.md R75). -/
def cmdAddr : Addr := 0x010

end Sys2Proof.Machine
end

