-- ==== Sys2Proof/Machine/Step.lean ====
section
/-!
DEFINITION. One step of the machine: the oldest input happens; where none is waiting, the TX engine, which is weakly
fair, takes its turn, and an idle block stays as it is (00_scope.md R10, 70_reset_and_hazards.md R372, R391; log entry
2). A command is run by a host write to CMD (40_host_access.md R146), so the next instruction is the word of such a
write at the head of `inputs` (log entry 16).
-/

namespace Sys2Proof.Machine

/-- One atomic step (20_memory.md R81). -/
def step (s : State) : Host.Outcome State Fault Refusal :=
  match s.inputs with
  | [] => txTurn s
  | e :: rest => perform e { s with inputs := rest }

/-- The state in which the host's next access writes the command word to CMD, before whatever else is waiting (log
entry 16). -/
def State.withFetchWord (s : State) (nbits w : Nat) : State :=
  { s with inputs := .write cmdAddr (BitVec.ofNat 32 (w % 2 ^ nbits)) :: s.inputs }

end Sys2Proof.Machine
end

