-- ==== Sys2Proof/Safety.lean ====
section
/-!
DEFINITION. What the claims of this package call a good state and a clean run: the invariants of 10_state.md R45 with
the shape of the stored data, and an error record that is empty (60_exceptions.md R338). It also says how a list of
inputs, ticks or commands is run, for claims about several steps.
-/

namespace Sys2Proof.Machine

/-- The block as every reachable state has it (10_state.md R45, with what the register widths and the other rules
add). -/
structure State.Inv (s : State) : Prop where
  /-- The parameters meet their constraint (00_scope.md R8). -/
  params : s.params.Ok
  /-- The colour buffer's "length never changes after creation" (10_state.md R41). -/
  bufLength : s.buf.length = s.params.n
  /-- One slot word for each s < N_SLOTS (10_state.md R40). -/
  slotLength : s.slotCfg.length = s.params.nSlots
  /-- The reserved bits of every slot word are 0 (30_encoding.md R120). -/
  slotBits : ∀ w ∈ s.slotCfg, slotStorable w = w
  /-- ARG_MASK names no LED ≥ N (10_state.md R29). -/
  argMaskBits : s.argMask.toNat < 2 ^ s.params.n
  /-- No GROUP_MASK names an LED ≥ N (10_state.md R37). -/
  groupBits : ∀ g : Fin 3, s.groupMasks[g].toNat < 2 ^ s.params.n
  /-- R45.1. -/
  dbCount : s.db.cnt.toNat ≤ s.params.longTicks
  /-- R45.2. -/
  pendingIdle : s.db.pending = true → s.db.cnt = 0 ∧ s.db.prov = false
  /-- R45.3. -/
  noPendingNoEvent : s.db.pending = false → s.db.event = .none
  /-- R45.4. -/
  demoCount : s.demo.cnt.toNat < s.params.demoTicks
  /-- R45.5. -/
  patIdx : s.patIdx.toNat < s.params.nSlots
  /-- R45.6. -/
  txIdle : s.tx.busy = false → s.tx.pos = 0 ∧ s.tx.latch = false ∧ s.tx.bits = []
  /-- R45.7. -/
  phase : s.gen.phase.toNat ≤ 2
  /-- R45.8. -/
  nzCount : s.nzCount.toNat ≤ 3 * s.params.n
  /-- The bits sent are the first TX_POS bits of the buffer's frame, and the latch period begins after the last one
  (41_transmitter.md R176, 20_memory.md R88). -/
  txSent : s.tx.busy = true →
    s.tx.bits = s.frameBits.take s.tx.pos ∧ s.tx.pos ≤ 24 * s.params.n ∧ (s.tx.latch = true ↔ s.tx.pos = 24 * s.params.n)
  /-- Every completed frame has 24N bits (10_state.md R42, 41_transmitter.md R181). -/
  frames : ∀ f ∈ s.tx.frames, f.length = 24 * s.params.n
  /-- "It is low whenever TX_BUSY = 0" (10_state.md R43). -/
  doutIdle : s.tx.busy = false → ∀ r ∈ s.tx.dout, r.high = false
  /-- CNT is at most 254 (42_pattern_engine.md R206). -/
  cnt : s.gen.cnt.toNat ≤ 254
  /-- FADE_CNT is below DELAY when it is written (60_exceptions.md R343), so at most 254. -/
  fadeCnt : s.gen.fadeCnt.toNat ≤ 254
  /-- MULTI and ERR_INFO are written only with a cause (60_exceptions.md R333, R336). -/
  noError : s.err.cause = .none → s.err.multi = false ∧ s.err.info = 0
  /-- FadeDone is held only by an active fade (42_pattern_engine.md R221). -/
  fadeDone : s.pstat = .fadeDone → s.fadeActive = true
  /-- "With DEMO_EN = 0, DEMO_CNT is not advanced and stays 0" (44_debounce_demo.md R302). -/
  demoOff : s.demo.en = false → s.demo.cnt = 0
  /-- What the BTN_SYNC flops hold between ticks: the level of the last tick. No rule says so; it is the model's choice
  (log entry 6), since 44_debounce_demo.md R291 leaves the synchroniser's delay out of the model. -/
  synced : s.db.sync1 = s.db.sync2 ∧ s.db.sync2 = !s.db.btn

/-- No error is recorded (60_exceptions.md R338). -/
def State.errorFree (s : State) : Bool := s.err.cause = .none

/-- The state a step leaves, where it leaves one. -/
def Result.state? : Result → Option State
  | .next s => some s
  | .fault _ => none
  | .refused _ => none

/-- STEP passes its checks and runs the generator of the current slot's kind (42_pattern_engine.md R203, R204). -/
structure State.RunsKind (s : State) (k : Kind) : Prop where
  idle : s.tx.busy = false
  noFade : s.fadeActive = false
  notDone : s.pstat ≠ .fadeDone
  kind : slotKind s.cfg = some k
  valid : slotValid s.cfg = true

/-- STEP passes its checks and runs the fade-out transition (42_pattern_engine.md R203, R204). -/
structure State.RunsFade (s : State) : Prop where
  idle : s.tx.busy = false
  fade : s.fadeActive = true
  notDone : s.pstat ≠ .fadeDone
  delay : s.fadeDelay ≠ 0

/-- Every channel of every LED is 0. -/
def State.Dark (s : State) : Prop := ∀ i < s.params.n, s.led i = 0

/-- The whole buffer goes dark when it is halved once more. -/
def State.DarkAfterHalving (s : State) : Prop := ∀ i < s.params.n, halveColor (s.led i) = 0

/-- The largest channel of the buffer. -/
def State.brightest (s : State) : Nat :=
  ((List.range s.params.n).map fun i =>
    max (chanG (s.led i)).toNat (max (chanR (s.led i)).toNat (chanB (s.led i)).toNat)).foldl max 0

/-- A command run k times in a row. -/
def execTimes (i : Instr) : Nat → State → Option State
  | 0, s => some s
  | k + 1, s => (Result.state? (exec i s)).bind (execTimes i k)

/-- Ticks with the given button samples, in order (44_debounce_demo.md R290). -/
def ticks : List Bool → State → Option State
  | [], s => some s
  | p :: ps, s => (Result.state? (tickStep p s)).bind (ticks ps)

end Sys2Proof.Machine
end

