-- ==== Sys2Proof/Certificates/Slice0/Obligations.lean ====
section
/-!
DEFINITION. The statements for the provers. Each docstring names the rule of spec/ that it formalises. A statement
that rests on a choice of the model names the log entry.
-/

open Sys2Proof Sys2Proof.Machine

/-! ### Encoding (30_encoding.md) -/

/-- Decoding the word of a command whose operands fit gives the command back, at every operand value; and a word that
decodes is the word of the command it decodes to, whose operands fit, so every word has at most one meaning
(30_encoding.md R110 to R113, R126). -/
def Obligations.DecodeInvertsEncode : Prop :=
  (∀ i : Instr, i.wellFormed = true → decode (encode i) = .ok i) ∧
  ∀ (w : Word) (i : Instr), decode w = .ok i → encode i = w ∧ i.wellFormed = true

/-- 30_encoding.md R113: a word decodes exactly when some row of the map matches it, it then decodes to a command of
that row, and a word that no row matches is recorded as ILLEGAL with the word, before every other check and with no
other effect. -/
def Obligations.DecodeFollowsTheMap : Prop :=
  ∀ w : Word,
    ((∃ i, decode w = .ok i) ↔ ∃ r ∈ opcodeRows, w &&& r.mask = r.matchBits) ∧
    (∀ i, decode w = .ok i → w &&& (rowOf i).mask = (rowOf i).matchBits) ∧
    ((∀ r ∈ opcodeRows, w &&& r.mask ≠ r.matchBits) → ∀ s, execute w s = .next (s.raise .illegal w))

/-- 30_encoding.md R114: a word is illegal in exactly three cases. OP is one of the 244 unlisted values; OP is listed
and a field that the map marks 0 is not zero; Z is not zero. OP = 0xFF is unlisted. -/
def Obligations.IllegalInThreeCases : Prop :=
  let listed : List Byte := [0x00, 0x01, 0x02, 0x03, 0x04, 0x05, 0x06, 0x07, 0x10, 0x11, 0x12, 0x20]
  let usesA : List Byte := [0x02, 0x04, 0x10]
  let usesB : List Byte := [0x02]
  (∀ w : Word,
    (∃ e, decode w = .error e) ↔
      opField w ∉ listed ∨ (opField w ∉ usesA ∧ aField w ≠ 0) ∨ (opField w ∉ usesB ∧ bField w ≠ 0) ∨ zField w ≠ 0) ∧
  ((List.range 256).filter fun op => BitVec.ofNat 8 op ∉ listed).length = 244 ∧ (0xFF : Byte) ∉ listed

/-- Words written out from the patterns of 30_encoding.md R112 decode to their commands. -/
def Obligations.ListedWordsDecode : Prop :=
  (decode 0x00000000).toOption = some .nop ∧ (decode 0x01000000).toOption = some .fillAll ∧
  (decode 0x02030500).toOption = some (.fillRange 3 5) ∧ (decode 0x04FF0000).toOption = some (.rotate 255) ∧
  (decode 0x100B0000).toOption = some (.select 11) ∧ (decode 0x12000000).toOption = some .step ∧
  (decode 0x20000000).toOption = some .transmit ∧ (decode 0x02030501).toOption = none

/-! ### A step runs the decoded command -/

/-- When the host's next access writes a word to CMD and the word decodes to a command, the step is that command's
`exec` in the state without that input (40_host_access.md R146; the queue of inputs is log entries 2 and 16). -/
def Obligations.StepRunsDecodedCommand : Prop :=
  ∀ (s : State) (w : Word) (rest : List Input) (i : Instr),
    s.inputs = .write 0x010 w :: rest → decode w = .ok i → step s = exec i { s with inputs := rest }

/-! ### Commands (40_host_access.md, 43_color_primitives.md, 42_pattern_engine.md, 41_transmitter.md) -/

/-- 40_host_access.md R147: NOP changes nothing in any state, a frame in flight included, and a word with OP = 0x00 and
any other bit set is not NOP: it raises ILLEGAL. -/
def Obligations.NopChangesNothing : Prop :=
  (∀ s, exec .nop s = .next s) ∧
  ∀ (s : State) (w : Word), opField w = 0x00 → w ≠ 0 → execute w s = .next (s.raise .illegal w)

/-- 43_color_primitives.md R251: with no frame in flight FILL_ALL gives every LED ARG_COLOR and sets DIRTY, and nothing
else changes. -/
def Obligations.FillAllResult : Prop :=
  ∀ s : State, s.tx.busy = false →
    ∃ t, exec .fillAll s = .next t ∧ t = { s with buf := t.buf, dirty := true } ∧
      t.buf.length = s.params.n ∧ ∀ i < s.params.n, t.led i = s.argColor

/-- 43_color_primitives.md R252. An accepted range gives the LEDs lo to hi, both included, ARG_COLOR, leaves the others,
sets DIRTY, and changes nothing else; lo > hi or hi ≥ N raises RANGE with the CMD word and changes nothing else. -/
def Obligations.FillRangeResult : Prop :=
  ∀ (s : State) (lo hi : Nat), s.tx.busy = false →
    (lo ≤ hi → hi < s.params.n →
      ∃ t, exec (.fillRange lo hi) s = .next t ∧ t = { s with buf := t.buf, dirty := true } ∧
        t.buf.length = s.params.n ∧
        ∀ i < s.params.n, t.led i = if lo ≤ i ∧ i ≤ hi then s.argColor else s.led i) ∧
    (hi < lo ∨ s.params.n ≤ hi →
      exec (.fillRange lo hi) s = .next (s.raise .range (encode (.fillRange lo hi))))

/-- 43_color_primitives.md R253: the LEDs whose bit is set in ARG_MASK get ARG_COLOR, the others keep theirs, DIRTY is
set even for an empty mask, and nothing else changes. -/
def Obligations.FillMaskResult : Prop :=
  ∀ s : State, s.tx.busy = false →
    ∃ t, exec .fillMask s = .next t ∧ t = { s with buf := t.buf, dirty := true } ∧
      t.buf.length = s.params.n ∧
      ∀ i < s.params.n, t.led i = if s.argMask.getLsbD i then s.argColor else s.led i

/-- 43_color_primitives.md R254, R255: ROTATE k moves every LED k positions toward higher indices round the buffer,
for every k, sets DIRTY, and changes nothing else. -/
def Obligations.RotateResult : Prop :=
  ∀ (s : State) (k : Nat), s.tx.busy = false → s.buf.length = s.params.n →
    ∃ t, exec (.rotate k) s = .next t ∧ t = { s with buf := t.buf, dirty := true } ∧
      t.buf.length = s.params.n ∧ ∀ i < s.params.n, t.led ((i + k) % s.params.n) = s.led i

/-- 43_color_primitives.md R256, the four rotation laws: the index law, rotate(N) is the identity, composition adds
modulo N, and rotation permutes the words. -/
def Obligations.RotationLaws : Prop :=
  ∀ s : State, 0 < s.params.n → s.buf.length = s.params.n →
    (∀ k, ∀ i < s.params.n, (s.rotate k).led i = s.led (((i : Int) - k) % s.params.n).toNat) ∧
    s.rotate s.params.n = s ∧
    (∀ a b, (s.rotate a).rotate b = s.rotate ((a + b) % s.params.n)) ∧
    ∀ k, (s.rotate k).buf.Perm s.buf

/-- 43_color_primitives.md R262, R263: HALVE shifts each channel of each LED right by one, writes to NZCOUNT the number
of channels that are then not zero, sets DIRTY, and changes nothing else. -/
def Obligations.HalveResult : Prop :=
  ∀ s : State, s.tx.busy = false → s.params.n ≤ 32 →
    ∃ t, exec .halve s = .next t ∧ t = { s with buf := t.buf, nzCount := t.nzCount, dirty := true } ∧
      t.buf.length = s.params.n ∧
      (∀ i < s.params.n, chanG (t.led i) = chanG (s.led i) >>> 1 ∧ chanR (t.led i) = chanR (s.led i) >>> 1 ∧
        chanB (t.led i) = chanB (s.led i) >>> 1) ∧
      t.nzCount.toNat = ((List.range s.params.n).countP fun i => chanG (t.led i) ≠ 0) +
        ((List.range s.params.n).countP fun i => chanR (t.led i) ≠ 0) +
        ((List.range s.params.n).countP fun i => chanB (t.led i) ≠ 0)

/-- 43_color_primitives.md R264, the five halving laws, on k halvings of the buffer: eight halvings give 0; a channel
v > 0 reaches 0 after exactly bitlength(v) halvings; the returned count is a recount; no channel is raised and 0 stays
0; and the count is 0 exactly when every channel is 0. -/
def Obligations.HalvingLaws : Prop :=
  ∀ s : State,
    let after := fun k : Nat => (fun u : State => u.halve.1)^[k] s
    (∀ i < s.params.n, (after 8).led i = 0) ∧
    (∀ i < s.params.n, ∀ chan ∈ [chanG, chanR, chanB], chan (s.led i) ≠ 0 → ∀ k,
      chan ((after k).led i) = 0 ↔ Nat.log2 (chan (s.led i)).toNat + 1 ≤ k) ∧
    (∀ k, ((after k).halve).2 = (after (k + 1)).litCount) ∧
    (∀ i < s.params.n, ∀ chan ∈ [chanG, chanR, chanB],
      (chan ((after 1).led i)).toNat ≤ (chan (s.led i)).toNat ∧ (chan (s.led i) = 0 → chan ((after 1).led i) = 0)) ∧
    (s.halve.2 = 0 ↔ (after 1).Dark)

/-- 43_color_primitives.md R266, R267: with M = min(N, N_TUNED) and L = M div 3, LED i stands at p = i mod M. Past 3L it
is black; else the primary of its sector has weight RB_LUT(L, p mod L), the next primary PEAK minus it, and the third
0, in the order red, green, blue. DIRTY is set and nothing else changes. -/
def Obligations.RainbowResult : Prop :=
  ∀ s : State, s.params.Ok → s.tx.busy = false →
    ∃ t, exec .rainbow s = .next t ∧ t = { s with buf := t.buf, dirty := true } ∧ t.buf.length = s.params.n ∧
      ∀ i < s.params.n,
        let m := min s.params.n s.params.nTuned
        let l := m / 3
        let p := i % m
        let a := s.params.lut l (p % l)
        let c := ((chanR (t.led i)).toNat, (chanG (t.led i)).toNat, (chanB (t.led i)).toNat)
        (3 * l ≤ p → t.led i = 0) ∧
        (p < l → c = (a, s.params.peak - a, 0)) ∧
        (l ≤ p → p < 2 * l → c = (0, a, s.params.peak - a)) ∧
        (2 * l ≤ p → p < 3 * l → c = (s.params.peak - a, 0, a)) ∧
        (p < 3 * l → a ≤ s.params.peak)

/-- 43_color_primitives.md R268: the rainbow for N = 18 with the default table, from reset. -/
def Obligations.RainbowTableForEighteen : Prop :=
  ∃ t, exec .rainbow State.reset = .next t ∧
    (List.range 6).map (Params.defaults.lut 6) = [128, 107, 86, 64, 43, 22] ∧
    ((List.range 6).map fun j => Params.defaults.peak - Params.defaults.lut 6 j) = [0, 21, 42, 64, 85, 106] ∧
    t.buf = [0x008000, 0x156B00, 0x2A5600, 0x404000, 0x552B00, 0x6A1600,
             0x800000, 0x6B0015, 0x56002A, 0x400040, 0x2B0055, 0x16006A,
             0x000080, 0x00156B, 0x002A56, 0x004040, 0x00552B, 0x006A16]

/-- 43_color_primitives.md R270, R271: LED i gets draws 3i, 3i + 1 and 3i + 2 as G, R and B, with no cap, 3N draws are
taken, DIRTY is set, and nothing else changes. The draws are whatever the random port answers (log entry 4): the
bytes that the environment placed, in their order, come first, and a draw that was taken is not answered again
(00_scope.md R15). -/
def Obligations.RandomFillResult : Prop :=
  (∀ s : State, s.tx.busy = false →
    ∃ t, exec .randomFill s = .next t ∧
      t = { s with buf := t.buf, dirty := true, rand := s.rand.advance (3 * s.params.n) } ∧
      t.buf.length = s.params.n ∧
      ∀ i < s.params.n, chanG (t.led i) = s.rand.draw (3 * i) ∧ chanR (t.led i) = s.rand.draw (3 * i + 1) ∧
        chanB (t.led i) = s.rand.draw (3 * i + 2)) ∧
  ∀ (r : RandPort) (k j : Nat),
    (r.advance k).draw j = r.draw (k + j) ∧ (∀ h : j < r.placed.length, r.draw j = r.placed[j])

/-- 42_pattern_engine.md R200: an accepted SELECT sets PAT_IDX to the slot, PSTAT to New and FADE_ACTIVE to 0 and
changes nothing else; a slot at or past N_SLOTS raises RANGE with the CMD word and changes nothing else. -/
def Obligations.SelectResult : Prop :=
  ∀ (s : State) (slot : Nat), s.tx.busy = false → s.params.nSlots ≤ 32 →
    (slot < s.params.nSlots →
      ∃ t, exec (.select slot) s = .next t ∧ t.patIdx.toNat = slot ∧
        t = { s with patIdx := t.patIdx, pstat := .new, fadeActive := false }) ∧
    (s.params.nSlots ≤ slot →
      exec (.select slot) s = .next (s.raise .range (encode (.select slot))))

/-- 42_pattern_engine.md R201: FADE_START sets FADE_ACTIVE to 1 and PSTAT to New and changes nothing else, and STATUS
then reads so. -/
def Obligations.FadeStartResult : Prop :=
  ∀ s : State, s.tx.busy = false →
    ∃ t, exec .fadeStart s = .next t ∧ t = { s with fadeActive := true, pstat := .new } ∧
      (t.busRead 0x004).extractLsb' 2 3 = 0b100

/-- 41_transmitter.md R171: TRANSMIT sets TX_BUSY, clears DIRTY, TX_POS, TX_LATCH and TX_BITS, and changes nothing else;
while a frame is in flight it is rejected with BUSY and the frame is unaffected. -/
def Obligations.TransmitResult : Prop :=
  ∀ s : State,
    (s.tx.busy = false →
      ∃ t, exec .transmit s = .next t ∧
        t = { s with dirty := false, tx := t.tx } ∧
        t.tx = { s.tx with busy := true, pos := 0, latch := false, bits := [] }) ∧
    (s.tx.busy = true → exec .transmit s = .next (s.raise .busy 0x20000000))

/-! ### STEP (42_pattern_engine.md) -/

/-- 42_pattern_engine.md R203: a STEP that passes its checks completes, raises nothing, and writes at most PSTAT, DIRTY,
BUF, GEN_STATE and GEN_RCOLOR, NZCOUNT and draws. It returns Refresh, NoChange or FadeDone, FadeDone only from a
fade, and sets DIRTY exactly when it returns Refresh. -/
def Obligations.StepCompletes : Prop :=
  ∀ s : State, s.tx.busy = false → s.pstat ≠ .fadeDone →
    (if s.fadeActive then s.fadeDelay ≠ 0 else slotValid s.cfg = true) →
    ∃ t, exec .step s = .next t ∧
      t = { s with pstat := t.pstat, dirty := t.dirty, buf := t.buf, gen := t.gen, nzCount := t.nzCount,
                   rand := t.rand } ∧
      t.pstat ≠ .new ∧ (t.pstat = .fadeDone → s.fadeActive = true) ∧
      (t.dirty = true ↔ s.dirty = true ∨ t.pstat = .refresh)

/-- 42_pattern_engine.md R204 with 60_exceptions.md R332: a STEP is rejected with STATE when PSTAT is FadeDone, whatever
else is wrong; otherwise with CFG when a fade runs with DELAY = 0, or no fade runs and SLOT_CFG[PAT_IDX] breaks its
row of the table of 30_encoding.md R123, a reserved KIND included. Nothing but the record changes. A word that keeps
its row is not rejected. The table is stated on the fields of R120 with the codes of R121 and R122, and so are the
fields and the kind that the other statements about STEP use. -/
def Obligations.StepRejected : Prop :=
  let kind := fun w : Word => w.toNat % 16
  let color := fun w : Word => w.toNat / 2 ^ 4 % 16
  let period := fun w : Word => w.toNat / 2 ^ 8 % 256
  let seed := fun w : Word => w.toNat / 2 ^ 20 % 8
  let keepsItsRow := fun w : Word =>
    (kind w = 0 ∧ (color w ≤ 7 ∨ color w = 15)) ∨
    kind w = 1 ∨
    (kind w = 2 ∧ 1 ≤ period w) ∨
    (kind w = 3 ∧ 1 ≤ period w) ∨
    (kind w = 4 ∧ color w ≤ 7 ∧ 1 ≤ period w) ∨
    (kind w = 5 ∧ 1 ≤ period w) ∨
    (kind w = 6 ∧ (color w ≤ 7 ∨ color w = 15) ∧ 1 ≤ period w) ∨
    (kind w = 7 ∧ color w ≤ 7 ∧ 1 ≤ period w ∧ seed w ≠ 0) ∨
    (kind w = 8 ∧ (color w ≤ 7 ∨ color w = 15) ∧ 1 ≤ period w ∧ seed w ≠ 0)
  (∀ w : Word,
    (slotValid w = true ↔ keepsItsRow w) ∧
    slotKind w = [Kind.solid, .rainbow, .breathe, .wheel, .flash, .crazy, .walk, .arc, .ring][kind w]? ∧
    slotColor w = color w ∧ slotPeriod w = period w ∧ (slotSeed w).toNat = seed w ∧
    slotVariant0 w = decide (w.toNat / 2 ^ 16 % 2 = 1) ∧ slotVariant1 w = decide (w.toNat / 2 ^ 17 % 2 = 1)) ∧
  ∀ s : State, s.tx.busy = false →
    (∀ h : s.patIdx.toNat < s.slotCfg.length, s.cfg = s.slotCfg[s.patIdx.toNat]) ∧
    (s.pstat = .fadeDone → exec .step s = .next (s.raise .state 0x12000000)) ∧
    (s.pstat ≠ .fadeDone → s.fadeActive = true → s.fadeDelay = 0 →
      exec .step s = .next (s.raise .cfg 0x12000000)) ∧
    (s.pstat ≠ .fadeDone → s.fadeActive = false → ¬ keepsItsRow s.cfg →
      exec .step s = .next (s.raise .cfg 0x12000000)) ∧
    (s.pstat ≠ .fadeDone → s.fadeActive = false → keepsItsRow s.cfg →
      ∃ t, exec .step s = .next t ∧ t.err = s.err ∧ t.pstat ≠ .new)

/-- 42_pattern_engine.md R206, R202: a non-New STEP of a periodic kind before its period is up counts CNT, returns
NoChange, and changes nothing else. -/
def Obligations.CadenceWaits : Prop :=
  ∀ (s : State) (k : Kind), s.RunsKind k → k ∉ [Kind.solid, Kind.rainbow] → s.pstat ≠ .new →
    (s.gen.cnt + 1).toNat < slotPeriod s.cfg →
    exec .step s = .next { s with pstat := .noChange, gen := { s.gen with cnt := s.gen.cnt + 1 } }

/-- 42_pattern_engine.md R207: SOLID. New fills the buffer with the selected colour, or draws one colour per LED; later
STEPs return NoChange and change only PSTAT. -/
def Obligations.SolidStep : Prop :=
  ∀ s : State, s.RunsKind .solid →
    (s.pstat = .new → ∃ t, exec .step s = .next t ∧
      t = { s with pstat := .refresh, dirty := true, buf := t.buf, gen := { s.gen with cnt := 0 }, rand := t.rand } ∧
      (slotColor s.cfg ≤ 7 → t.rand = s.rand ∧ ∀ i < s.params.n, t.led i = s.paletteAt (slotColor s.cfg)) ∧
      (slotColor s.cfg = 15 → t.rand = s.rand.advance (3 * s.params.n) ∧
        ∀ i < s.params.n, t.led i = s.rand.drawColor i)) ∧
    (s.pstat ≠ .new → exec .step s = .next { s with pstat := .noChange })

/-- 42_pattern_engine.md R208: RAINBOW. New draws the gradient that the RAINBOW command draws; later STEPs return
NoChange and change only PSTAT. -/
def Obligations.RainbowStep : Prop :=
  ∀ s : State, s.RunsKind .rainbow →
    (s.pstat = .new → ∃ t u, exec .step s = .next t ∧ exec .rainbow s = .next u ∧
      t = { u with pstat := .refresh, gen := { s.gen with cnt := 0 } }) ∧
    (s.pstat ≠ .new → exec .step s = .next { s with pstat := .noChange })

/-- 42_pattern_engine.md R209: BREATHE. New draws the gradient. A cadence action halves the buffer and, if that leaves
it dark, draws the gradient again in the same STEP; it returns Refresh. -/
def Obligations.BreatheStep : Prop :=
  ∀ s : State, s.RunsKind .breathe →
    (s.pstat = .new → ∃ t u, exec .step s = .next t ∧ exec .rainbow s = .next u ∧
      t = { u with pstat := .refresh, gen := { s.gen with cnt := 0 } }) ∧
    (s.pstat ≠ .new → slotPeriod s.cfg ≤ (s.gen.cnt + 1).toNat → ∃ t h u, exec .step s = .next t ∧
      exec .halve s = .next h ∧ exec .rainbow s = .next u ∧
      (s.DarkAfterHalving →
        t = { h with buf := u.buf, pstat := .refresh, gen := { s.gen with cnt := 0 } }) ∧
      (¬ s.DarkAfterHalving → t = { h with pstat := .refresh, gen := { s.gen with cnt := 0 } }))

/-- 42_pattern_engine.md R210: WHEEL. New draws the gradient; a cadence action rotates the buffer by three and returns
Refresh. -/
def Obligations.WheelStep : Prop :=
  ∀ s : State, s.RunsKind .wheel →
    (s.pstat = .new → ∃ t u, exec .step s = .next t ∧ exec .rainbow s = .next u ∧
      t = { u with pstat := .refresh, gen := { s.gen with cnt := 0 } }) ∧
    (s.pstat ≠ .new → slotPeriod s.cfg ≤ (s.gen.cnt + 1).toNat → ∃ t u, exec .step s = .next t ∧
      exec (.rotate 3) s = .next u ∧ t = { u with pstat := .refresh, gen := { s.gen with cnt := 0 } })

/-- 42_pattern_engine.md R211 to R213: FLASH. LED i shows palette entry COLOR + ((i + PHASE) mod K), taken mod 8. New
starts at PHASE 0. A cadence action halves, and where that leaves the buffer dark advances PHASE mod K and lays the
colours out again. -/
def Obligations.FlashStep : Prop :=
  ∀ s : State, s.RunsKind .flash →
    let k := if slotVariant0 s.cfg then 3 else 2
    let shows := fun (t : State) (phase : Nat) =>
      ∀ i < s.params.n, t.led i = s.paletteAt ((slotColor s.cfg + (i + phase) % k) % 8)
    (s.pstat = .new → ∃ t, exec .step s = .next t ∧ shows t 0 ∧
      t = { s with pstat := .refresh, dirty := true, buf := t.buf, gen := { s.gen with cnt := 0, phase := 0 } }) ∧
    (s.pstat ≠ .new → slotPeriod s.cfg ≤ (s.gen.cnt + 1).toNat → ∃ t h, exec .step s = .next t ∧
      exec .halve s = .next h ∧
      (¬ s.DarkAfterHalving → t = { h with pstat := .refresh, gen := { s.gen with cnt := 0 } }) ∧
      (s.DarkAfterHalving → t.gen.phase.toNat = (s.gen.phase.toNat + 1) % k ∧ shows t t.gen.phase.toNat ∧
        t = { h with pstat := .refresh, buf := t.buf, gen := { s.gen with cnt := 0, phase := t.gen.phase } }))

/-- 42_pattern_engine.md R214: CRAZY. New draws the whole buffer. A cadence action halves, and where that leaves the
buffer dark draws it again. -/
def Obligations.CrazyStep : Prop :=
  ∀ s : State, s.RunsKind .crazy →
    (s.pstat = .new → ∃ t u, exec .step s = .next t ∧ exec .randomFill s = .next u ∧
      t = { u with pstat := .refresh, gen := { s.gen with cnt := 0 } }) ∧
    (s.pstat ≠ .new → slotPeriod s.cfg ≤ (s.gen.cnt + 1).toNat → ∃ t h u, exec .step s = .next t ∧
      exec .halve s = .next h ∧ exec .randomFill s = .next u ∧
      (s.DarkAfterHalving →
        t = { h with buf := u.buf, rand := u.rand, pstat := .refresh, gen := { s.gen with cnt := 0 } }) ∧
      (¬ s.DarkAfterHalving → t = { h with pstat := .refresh, gen := { s.gen with cnt := 0 } }))

/-- 42_pattern_engine.md R215: WALK. New draws GEN_RCOLOR if COLOR is 15, blackens the buffer and lights the segment's
LEDs in its colour; a cadence action rotates by one or three. -/
def Obligations.WalkStep : Prop :=
  ∀ s : State, s.RunsKind .walk →
    let h := s.params.n / 2
    let segment := if slotVariant0 s.cfg then [0, 1, h, h + 1] else [0, h]
    let stride := if slotVariant1 s.cfg then 3 else 1
    (s.pstat = .new → ∃ t, exec .step s = .next t ∧
      t = { s with pstat := .refresh, dirty := true, buf := t.buf,
                   gen := { s.gen with cnt := 0, rcolor := t.gen.rcolor }, rand := t.rand } ∧
      (slotColor s.cfg ≤ 7 → t.gen.rcolor = s.gen.rcolor ∧ t.rand = s.rand ∧
        ∀ i < s.params.n, t.led i = if i ∈ segment then s.paletteAt (slotColor s.cfg) else 0) ∧
      (slotColor s.cfg = 15 → t.gen.rcolor = s.rand.drawColor 0 ∧ t.rand = s.rand.advance 3 ∧
        ∀ i < s.params.n, t.led i = if i ∈ segment then s.rand.drawColor 0 else 0)) ∧
    (s.pstat ≠ .new → slotPeriod s.cfg ≤ (s.gen.cnt + 1).toNat → ∃ t u, exec .step s = .next t ∧
      exec (.rotate stride) s = .next u ∧ t = { u with pstat := .refresh, gen := { s.gen with cnt := 0 } })

/-- 42_pattern_engine.md R216, R218: ARC. The groups are the thirds of the chain, the last one with the extra LEDs, and
group g has palette colour COLOR + g. New seeds MASK and lights only group 2. A cadence action re-seeds a zero MASK,
shifts any other right by one, and shows exactly the groups whose bits are set. -/
def Obligations.ArcStep : Prop :=
  ∀ s : State, s.RunsKind .arc →
    let l := s.params.n / 3
    let group := fun i => if i < l then 0 else if i < 2 * l then 1 else 2
    (s.pstat = .new → ∃ t, exec .step s = .next t ∧
      t = { s with pstat := .refresh, dirty := true, buf := t.buf,
                   gen := { s.gen with cnt := 0, mask := slotSeed s.cfg } } ∧
      ∀ i < s.params.n, t.led i = if group i = 2 then s.paletteAt ((slotColor s.cfg + 2) % 8) else 0) ∧
    (s.pstat ≠ .new → slotPeriod s.cfg ≤ (s.gen.cnt + 1).toNat → ∃ t, exec .step s = .next t ∧
      t = { s with pstat := .refresh, dirty := true, buf := t.buf,
                   gen := { s.gen with cnt := 0, mask := t.gen.mask } } ∧
      (s.gen.mask = 0 → t.gen.mask = slotSeed s.cfg) ∧ (s.gen.mask ≠ 0 → t.gen.mask = s.gen.mask >>> 1) ∧
      ∀ i < s.params.n,
        t.led i = if t.gen.mask.getLsbD (group i) then s.paletteAt ((slotColor s.cfg + group i) % 8) else 0)

/-- 42_pattern_engine.md R217, R218 and 10_state.md R38: RING. The groups are the GROUP_MASK registers and have one
colour, drawn into GEN_RCOLOR at New if COLOR is 15. New seeds MASK and lights only group 2. A cadence action re-seeds
or shifts MASK and writes the groups in order, so the highest-numbered group of an LED decides, and an LED in no group
keeps its colour. -/
def Obligations.RingStep : Prop :=
  ∀ s : State, s.RunsKind .ring →
    let inGroup := fun (g : Fin 3) (i : Nat) => s.groupMasks[g].getLsbD i
    (s.pstat = .new → ∃ t c, exec .step s = .next t ∧
      t = { s with pstat := .refresh, dirty := true, buf := t.buf,
                   gen := { s.gen with cnt := 0, mask := slotSeed s.cfg, rcolor := t.gen.rcolor }, rand := t.rand } ∧
      (slotColor s.cfg ≤ 7 → c = s.paletteAt (slotColor s.cfg) ∧ t.gen.rcolor = s.gen.rcolor ∧ t.rand = s.rand) ∧
      (slotColor s.cfg = 15 → c = s.rand.drawColor 0 ∧ t.gen.rcolor = c ∧ t.rand = s.rand.advance 3) ∧
      ∀ i < s.params.n, t.led i = if inGroup 2 i then c else 0) ∧
    (s.pstat ≠ .new → slotPeriod s.cfg ≤ (s.gen.cnt + 1).toNat → ∃ t, exec .step s = .next t ∧
      t = { s with pstat := .refresh, dirty := true, buf := t.buf,
                   gen := { s.gen with cnt := 0, mask := t.gen.mask } } ∧
      (s.gen.mask = 0 → t.gen.mask = slotSeed s.cfg) ∧ (s.gen.mask ≠ 0 → t.gen.mask = s.gen.mask >>> 1) ∧
      ∀ i < s.params.n,
        let c := if slotColor s.cfg = 15 then s.gen.rcolor else s.paletteAt (slotColor s.cfg)
        let shown := fun g : Nat => if t.gen.mask.getLsbD g then c else 0
        t.led i = if inGroup 2 i then shown 2 else if inGroup 1 i then shown 1 else if inGroup 0 i then shown 0
          else s.led i)

/-- 42_pattern_engine.md R218's property: from MASK = SEED ≠ 0, MASK after k reveal steps is SEED shifted k times until
it is zero, which takes as many steps as the 1-based position of SEED's highest bit, and the step after the zero shows
SEED again. -/
def Obligations.RevealMaskCycle : Prop :=
  ∀ (s : State) (seed : BitVec 3) (group : Nat → Nat → Bool) (col : Nat → Color),
    seed ≠ 0 → s.gen.mask = seed →
    let after := fun k : Nat => (fun u : State => u.revealStep seed group col)^[k] s
    let top := Nat.log2 seed.toNat + 1
    (∀ k ≤ top, (after k).gen.mask = seed >>> k) ∧ (∀ k < top, (after k).gen.mask ≠ 0) ∧
    (after top).gen.mask = 0 ∧ (after (top + 1)).gen.mask = seed

/-- 42_pattern_engine.md R220: the fade. At New, and when FADE_CNT + 1 reaches DELAY, the buffer is halved, FADE_CNT is
0, and the status is FadeDone if that leaves the buffer dark, else Refresh; any other STEP counts FADE_CNT and returns
NoChange. CNT, MASK, PHASE and GEN_RCOLOR stay as they were. -/
def Obligations.FadeStepResult : Prop :=
  ∀ s : State, s.RunsFade →
    (s.pstat = .new ∨ s.fadeDelay.toNat ≤ (s.gen.fadeCnt + 1).toNat → ∃ t h, exec .step s = .next t ∧
      exec .halve s = .next h ∧
      (s.DarkAfterHalving →
        t = { h with pstat := .fadeDone, dirty := s.dirty, gen := { s.gen with fadeCnt := 0 } }) ∧
      (¬ s.DarkAfterHalving → t = { h with pstat := .refresh, gen := { s.gen with fadeCnt := 0 } })) ∧
    (s.pstat ≠ .new → (s.gen.fadeCnt + 1).toNat < s.fadeDelay.toNat →
      exec .step s = .next { s with pstat := .noChange, gen := { s.gen with fadeCnt := s.gen.fadeCnt + 1 } })

/-- 42_pattern_engine.md R219, R220: a fade started on a buffer whose largest channel is v > 0 takes exactly
1 + (bitlength(v) - 1) * DELAY STEPs: the last one returns FadeDone and leaves the buffer dark, and none before it
does. -/
def Obligations.FadeTakesItsSteps : Prop :=
  ∀ (s : State) (k : Nat), s.RunsFade → s.pstat = .new → s.brightest ≠ 0 →
    let last := 1 + Nat.log2 s.brightest * s.fadeDelay.toNat
    1 ≤ k → k ≤ last →
    ∃ t, execTimes .step k s = some t ∧ (k < last → t.pstat = .refresh ∨ t.pstat = .noChange) ∧
      (k < last → (t.pstat = .refresh ↔ (k - 1) % s.fadeDelay.toNat = 0)) ∧
      (k = last → t.pstat = .fadeDone ∧ t.Dark)

/-! ### Errors (60_exceptions.md) -/

/-- 60_exceptions.md R333, R336, R337: the first error since the last clear is kept whole, a later one only sets MULTI,
and nothing else changes; a write of any value to ERR clears the record and nothing else, and ERR and ERR_INFO then
read 0; a write to ERR_INFO is ignored. -/
def Obligations.ErrorRecordKeepsTheFirst : Prop :=
  ∀ (s : State) (c : Cause) (info v : Word),
    (s.err.cause = .none → s.raise c info = { s with err := { s.err with cause := c, info := info } }) ∧
    (s.err.cause ≠ .none → s.raise c info = { s with err := { s.err with multi := true } }) ∧
    (∃ t, hostWrite 0x008 v s = .next t ∧ t = { s with err := ⟨.none, false, 0⟩ } ∧
      t.busRead 0x008 = 0 ∧ t.busRead 0x00C = 0) ∧
    hostWrite 0x00C v s = .next s

/-- 60_exceptions.md R335: errors are precise. Every command completes, and either it is rejected, with a cause and its
own word recorded and nothing else changed, or it leaves the error record as it was. -/
def Obligations.CommandErrorsArePrecise : Prop :=
  ∀ (i : Instr) (s : State), ∃ t, exec i s = .next t ∧
    ((∃ c, c ∈ [Cause.range, .busy, .state, .cfg] ∧ t = s.raise c (encode i)) ∨ t.err = s.err)

/-- 40_host_access.md R146, 60_exceptions.md R334: while a frame is in flight every command but NOP is rejected with
BUSY and its word, and nothing else changes. -/
def Obligations.BusyRejectsCommands : Prop :=
  ∀ (i : Instr) (s : State), s.tx.busy = true → i ≠ .nop → exec i s = .next (s.raise .busy (encode i))

/-! ### The bus (40_host_access.md, 20_memory.md) -/

/-- 40_host_access.md R140, 20_memory.md R77: a read answers the register's word and changes nothing else, and a second
read answers the same word. The word has the layout of 10_state.md R23 to R41, in every state, with the cause codes of
60_exceptions.md R330 and reserved bits 0; CMD, the slots the block does not have and the reserved offsets read 0
(BUF is in `BufWindow`). The answer is kept in `rdata`, the model's own field (log entry 5). -/
def Obligations.ReadsHaveNoSideEffect : Prop :=
  (∀ (s : State) (a : Addr) (rest : List Input), s.inputs = .read a :: rest → a.toNat % 4 = 0 →
    ∃ t, step s = .next t ∧ t = { s with inputs := rest, rdata := s.busRead a } ∧ t.busRead a = s.busRead a) ∧
  ∀ s : State,
    let word := fun a : Nat => (s.busRead (BitVec.ofNat 9 a)).toNat
    let pstat := if s.pstat = .new then 0 else if s.pstat = .refresh then 1 else if s.pstat = .noChange then 2 else 3
    let cause := if s.err.cause = .none then 0 else if s.err.cause = .illegal then 1 else if s.err.cause = .range then 2
      else if s.err.cause = .busy then 3 else if s.err.cause = .state then 4 else 5
    let event := if s.db.event = .none then 0 else if s.db.event = .short then 1 else 2
    word 0x004 = s.tx.busy.toNat + 2 ^ 1 * s.dirty.toNat + 2 ^ 2 * pstat + 2 ^ 4 * s.fadeActive.toNat +
      2 ^ 8 * s.patIdx.toNat ∧
    word 0x008 = cause + 2 ^ 8 * s.err.multi.toNat ∧
    word 0x00C = s.err.info.toNat ∧
    word 0x010 = 0 ∧
    word 0x014 = s.argColor.toNat ∧
    word 0x018 = s.argMask.toNat ∧
    word 0x01C = s.nzCount.toNat ∧
    word 0x020 = event + 2 ^ 2 * s.db.pending.toNat + 2 ^ 3 * s.db.nextReq.toNat + 2 ^ 4 * s.db.btn.toNat +
      2 ^ 5 * s.db.prov.toNat + 2 ^ 8 * s.db.cnt.toNat ∧
    word 0x024 = s.demo.en.toNat + 2 ^ 16 * s.demo.cnt.toNat ∧
    word 0x028 = s.fadeDelay.toNat ∧
    word 0x02C = s.gen.cnt.toNat + 2 ^ 8 * s.gen.mask.toNat + 2 ^ 12 * s.gen.phase.toNat +
      2 ^ 16 * s.gen.fadeCnt.toNat ∧
    word 0x030 = s.gen.rcolor.toNat ∧
    (s.params.Ok →
      word 0x000 = s.params.n + 2 ^ 8 * s.params.nSlots + 2 ^ 16 * s.params.nTuned + 2 ^ 24 * s.params.peak ∧
      word 0x034 = s.params.shortTicks + 2 ^ 8 * s.params.midTicks + 2 ^ 16 * s.params.longTicks ∧
      word 0x038 = s.params.demoTicks) ∧
    (∀ g : Fin 3, word (0x040 + 4 * g) = s.groupMasks[g].toNat) ∧
    (∀ k : Fin 8, word (0x060 + 4 * k) = s.palette[k].toNat) ∧
    (∀ k < 32, word (0x080 + 4 * k) = if k < s.params.nSlots then (s.slotCfg.getD k 0).toNat else 0) ∧
    ∀ a : Addr, a.toNat % 4 = 0 → a = 0x03C ∨ (0x04C ≤ a.toNat ∧ a.toNat ≤ 0x05C) ∨ 0x180 ≤ a.toNat →
      s.busRead a = 0

/-- 20_memory.md R73: an access with addr[1:0] ≠ 0 is refused, read or write. -/
def Obligations.MisalignedAccessRefused : Prop :=
  ∀ (s : State) (a : Addr) (v : Word), a.toNat % 4 ≠ 0 →
    hostRead a s = .refused .misalignedAccess ∧ hostWrite a v s = .refused .misalignedAccess

/-- 40_host_access.md R141, R142: what a write leaves in each register that can be written and read back. ARG_COLOR and
PALETTE keep bits 23:0, ARG_MASK and GROUP_MASK bits N-1:0, FADE_DELAY bits 7:0, SLOT_CFG the bits of 0x0073FFFF,
DEMO_CTRL bit 0, with DEMO_CNT 0, and an accepted BUF write bits 23:0. Every other register reads as before, but for
STATUS.DIRTY, which a BUF write sets. -/
def Obligations.WrittenRegistersReadBack : Prop :=
  ∀ (s : State) (v : Word), s.slotCfg.length = s.params.nSlots → s.buf.length = s.params.n →
    ∀ (a : Addr) (kept : Word),
      (a = 0x014 ∧ kept = v &&& 0x00FFFFFF) ∨
      (a = 0x018 ∧ kept = v &&& BitVec.ofNat 32 (2 ^ s.params.n - 1)) ∨
      (a = 0x024 ∧ kept = v &&& 0x00000001) ∨
      (a = 0x028 ∧ kept = v &&& 0x000000FF) ∨
      (a ∈ [0x040, 0x044, 0x048] ∧ kept = v &&& BitVec.ofNat 32 (2 ^ s.params.n - 1)) ∨
      ((∃ k < 8, a = BitVec.ofNat 9 (0x060 + 4 * k)) ∧ kept = v &&& 0x00FFFFFF) ∨
      ((∃ k < s.params.nSlots, k < 32 ∧ a = BitVec.ofNat 9 (0x080 + 4 * k)) ∧ kept = v &&& 0x0073FFFF) ∨
      ((∃ i < s.params.n, i < 32 ∧ a = BitVec.ofNat 9 (0x100 + 4 * i)) ∧ s.tx.busy = false ∧
        kept = v &&& 0x00FFFFFF) →
      ∃ t, hostWrite a v s = .next t ∧ t.busRead a = kept ∧
        ∀ b : Addr, b.toNat % 4 = 0 → b ≠ a →
          t.busRead b = if b = 0x004 ∧ 0x100 ≤ a.toNat then s.busRead b ||| 0x00000002 else s.busRead b

/-- 40_host_access.md R148: writes to the read-only registers, to the reserved offsets and to the slots the block does
not have are ignored and raise no error. -/
def Obligations.WritesWithNoEffect : Prop :=
  ∀ (s : State) (v : Word) (a : Addr), a.toNat % 4 = 0 →
    (a ∈ [0x000, 0x004, 0x00C, 0x01C, 0x02C, 0x030, 0x034, 0x038] ∨
      a = 0x03C ∨ (0x04C ≤ a.toNat ∧ a.toNat ≤ 0x05C) ∨ 0x180 ≤ a.toNat ∨
      (0x080 ≤ a.toNat ∧ a.toNat < 0x100 ∧ s.params.nSlots ≤ (a.toNat - 0x080) / 4)) →
    hostWrite a v s = .next s

/-- 40_host_access.md R142, R143, R144: the BUF window. A write with a frame in flight is rejected with BUSY, else past
the buffer's end with RANGE, both with 0xFF000000 | address and nothing else changed; otherwise LED i gets bits 23:0
of the word, DIRTY is set, and nothing else changes. A read gives the LED's word for i < N and 0 for N ≤ i ≤ 31, in
every state. -/
def Obligations.BufWindow : Prop :=
  ∀ (s : State) (v : Word) (i : Nat), i < 32 → s.buf.length = s.params.n →
    let a : Addr := BitVec.ofNat 9 (0x100 + 4 * i)
    let info : Word := 0xFF000000 + BitVec.ofNat 32 (0x100 + 4 * i)
    (s.tx.busy = true → hostWrite a v s = .next (s.raise .busy info)) ∧
    (s.tx.busy = false → s.params.n ≤ i → hostWrite a v s = .next (s.raise .range info)) ∧
    (s.tx.busy = false → i < s.params.n → ∃ t, hostWrite a v s = .next t ∧
      t = { s with buf := t.buf, dirty := true } ∧ t.buf.length = s.params.n ∧
      ∀ j < s.params.n, t.led j = if j = i then v.extractLsb' 0 24 else s.led j) ∧
    s.busRead a = if i < s.params.n then (s.led i).setWidth 32 else 0

/-- 70_reset_and_hazards.md R371: what software reads at reset with the default parameters, every register of the map.
INFO, DB_PARAM and DEMO_PARAM are the parameters' words. -/
def Obligations.ResetReads : Prop :=
  [0x000, 0x004, 0x008, 0x00C, 0x010, 0x014, 0x018, 0x01C, 0x020, 0x024, 0x028, 0x02C, 0x030, 0x034, 0x038, 0x040,
    0x044, 0x048].map State.reset.busRead =
    [0x80120C12, 0, 0, 0, 0, 0, 0, 0, 0, 0, 4, 0, 0, 0x0064370A, 0x000001F4, 0x00009249, 0x00012492, 0x00024924] ∧
  ((List.range 8).map fun k => State.reset.busRead (BitVec.ofNat 9 (0x060 + 4 * k))) =
    [0x008000, 0x800000, 0x000080, 0x808080, 0x808000, 0x800080, 0x008080, 0x000000] ∧
  ((List.range 12).map fun k => State.reset.busRead (BitVec.ofNat 9 (0x080 + 4 * k))) =
    [0x00000030, 0x000000F0, 0x00000001, 0x00000802, 0x00000403, 0x00010804, 0x00000814, 0x00000805, 0x00000426,
     0x00030406, 0x00401007, 0x004010F8] ∧
  State.reset.buf = List.replicate 18 0 ∧
  State.reset.tx = ⟨false, 0, false, [], [], []⟩ ∧ State.reset.db.sync1 = true ∧ State.reset.db.sync2 = true

/-- 70_reset_and_hazards.md R370: the reset input sets the whole block to its reset state, whatever it was doing, a
frame in flight included, which is not appended to FRAMES. That the parameters, the waiting inputs and the random port
are not the block's and stay is the model's choice (log entry 15). -/
def Obligations.ResetInput : Prop :=
  ∀ (s : State) (rest : List Input), s.inputs = .rst :: rest →
    ∃ t, step s = .next t ∧ t = { State.resetOf s.params with inputs := rest, rand := s.rand } ∧
      t.tx.frames = [] ∧ t.tx.busy = false ∧ t.err = ⟨.none, false, 0⟩ ∧ ∀ i, t.led i = 0

/-! ### The transmitter (41_transmitter.md) -/

/-- 41_transmitter.md R173: a frame has exactly 24N bits. LED i contributes its green byte, then red, then blue, each
most significant bit first, LED 0 first. -/
def Obligations.FrameBitOrder : Prop :=
  ∀ s : State, s.frameBits.length = 24 * s.params.n ∧
    ∀ i < s.params.n, ∀ j < 8,
      s.frameBits[24 * i + j]? = some ((chanG (s.led i)).getLsbD (7 - j)) ∧
      s.frameBits[24 * i + 8 + j]? = some ((chanR (s.led i)).getLsbD (7 - j)) ∧
      s.frameBits[24 * i + 16 + j]? = some ((chanB (s.led i)).getLsbD (7 - j))

/-- 41_transmitter.md R176, R177 with the waveform of R174. The emit step appends the bit at TX_POS, advances TX_POS, and
begins the latch period after the last bit; the line is high for T1H_CYC or T0H_CYC cycles, then low for the rest of
TBIT_CYC. The latch step appends TX_BITS to FRAMES, clears TX_BITS, TX_POS, TX_LATCH and TX_BUSY, and holds the line
low for TRES_CYC cycles. Nothing else changes, and a turn with no frame in flight changes nothing (log entry 18). -/
def Obligations.TxEngineSteps : Prop :=
  ∀ s : State,
    (s.tx.busy = true → s.tx.latch = false → s.tx.pos < 24 * s.params.n →
      ∃ t b, txTurn s = .next t ∧ s.frameBits[s.tx.pos]? = some b ∧ t = { s with tx := t.tx } ∧
        t.tx.busy = true ∧ t.tx.frames = s.tx.frames ∧ t.tx.bits = s.tx.bits ++ [b] ∧ t.tx.pos = s.tx.pos + 1 ∧
        (t.tx.latch = true ↔ t.tx.pos = 24 * s.params.n) ∧
        let high := if b then s.params.line.t1h else s.params.line.t0h
        t.tx.dout = [⟨true, high⟩, ⟨false, s.params.line.tbit - high⟩]) ∧
    (s.tx.busy = true → s.tx.latch = true →
      ∃ t, txTurn s = .next t ∧ t = { s with tx := t.tx } ∧ t.tx.busy = false ∧ t.tx.latch = false ∧ t.tx.pos = 0 ∧
        t.tx.bits = [] ∧ t.tx.frames = s.tx.frames ++ [s.tx.bits] ∧ t.tx.dout = [⟨false, s.params.line.tres⟩]) ∧
    (s.tx.busy = false → txTurn s = .next s)

/-- 41_transmitter.md R178, R181: after TRANSMIT, 24N emit steps and one latch step, and not one step sooner, complete
the frame: FRAMES gains exactly the bits of the buffer, TX_BUSY falls, and only the transmitter's state and DIRTY have
changed. The TX engine moves because no other input waits (log entry 2). -/
def Obligations.TransmitSendsTheBuffer : Prop :=
  ∀ s t : State, 0 < s.params.n → s.inputs = [] → s.tx.busy = false → exec .transmit s = .next t →
    (∀ k ≤ 24 * s.params.n, ∃ u, core.run k t = .next u ∧ u.tx.busy = true ∧ u.tx.frames = s.tx.frames) ∧
    ∃ u, core.run (24 * s.params.n + 1) t = .next u ∧ u.tx.busy = false ∧
      u.tx.frames = s.tx.frames ++ [s.frameBits] ∧ u = { s with dirty := false, tx := u.tx }

/-- 41_transmitter.md R178: the slots of a frame and its latch period last 24N * TBIT_CYC + TRES_CYC cycles in all,
whatever the bits. -/
def Obligations.FrameCycleCount : Prop :=
  ∀ s : State, s.params.Ok →
    (((s.frameBits.flatMap (slotWave s.params.line)) ++ latchWave s.params.line).map LineRun.cycles).sum =
      24 * s.params.n * s.params.line.tbit + s.params.line.tres

/-- 20_memory.md R88: while a frame is in flight no step but reset changes the colour buffer, so the bits that the TX
engine reads stay those of the buffer when TRANSMIT was accepted. -/
def Obligations.BufferFrozenInFlight : Prop :=
  ∀ s t : State, s.tx.busy = true → s.inputs.head? ≠ some .rst → step s = .next t →
    t.buf = s.buf ∧ t.frameBits = s.frameBits

/-- 41_transmitter.md R181, R179: a step of a good state leaves FRAMES as it was, or appends the frame of the buffer at
the end of a frame in flight, or is the reset. -/
def Obligations.FramesOnlyGrowByTheBuffer : Prop :=
  ∀ s t : State, s.Inv → s.inputs.head? ≠ some .rst → step s = .next t →
    t.tx.frames = s.tx.frames ∨ (s.tx.busy = true ∧ t.tx.busy = false ∧ t.tx.frames = s.tx.frames ++ [s.frameBits])

/-! ### Debounce and demo (44_debounce_demo.md) -/

/-- 44_debounce_demo.md R292 to R298: one tick of the state machine at each count from 0 to LONG_TICKS. BTN is the
sample; the branches are those of the rules; the tick touches no other unit but the demo counter. -/
def Obligations.TickOfTheStateMachine : Prop :=
  ∀ (s : State) (p : Bool), s.params.Ok → s.db.cnt.toNat ≤ s.params.longTicks →
    let c := s.db.cnt.toNat
    let d := s.db
    ∃ t, tickStep p s = .next t ∧ t = { s with db := t.db, demo := t.demo } ∧ t.db.btn = p ∧
      let leaves := fun (event : PressEvent) (pending prov : Bool) (cnt : Nat) =>
        t.db.event = event ∧ t.db.pending = pending ∧ t.db.prov = prov ∧ t.db.cnt.toNat = cnt
      (c = 0 → leaves d.event d.pending d.prov (if p = true ∧ d.pending = false then 1 else 0)) ∧
      (c ≠ 0 → c ≠ s.params.shortTicks → c ≠ s.params.midTicks → c ≠ s.params.longTicks →
        leaves d.event d.pending d.prov (c + 1)) ∧
      (c = s.params.shortTicks → leaves d.event d.pending (p || d.prov) (c + 1)) ∧
      (c = s.params.midTicks →
        if d.prov = true ∧ p = false then leaves .short true false 0 else leaves d.event d.pending d.prov (c + 1)) ∧
      (c = s.params.longTicks →
        if p then leaves .long true false 0
        else if d.prov then leaves .short true false 0
        else leaves d.event d.pending false 0)

/-- 44_debounce_demo.md R301: while an event is not acknowledged, ticks leave the count at 0 and the event as it is,
whatever the button does and however many ticks pass. -/
def Obligations.PendingEventHoldsTheMachine : Prop :=
  ∀ (s : State) (ps : List Bool), s.params.Ok → s.db.pending = true → s.db.cnt = 0 →
    ∃ t, ticks ps s = some t ∧ t.db.cnt = 0 ∧ t.db.pending = true ∧ t.db.event = s.db.event ∧ t.db.prov = s.db.prov

/-- 44_debounce_demo.md R299, R306: a whole cycle from idle. Tick 1 finds the press. A ShortPress comes at tick M + 1 if
the samples at ticks S + 1 and M + 1 are pressed and released; otherwise the cycle ends at tick L + 1 with a LongPress
if its sample is pressed, a ShortPress if only the one at S + 1 was, and no event else. No other sample matters. -/
def Obligations.PressCycle : Prop :=
  ∀ (s : State) (ps : List Bool), s.params.Ok →
    s.db.cnt = 0 → s.db.pending = false → s.db.event = .none → s.db.prov = false →
    ps.length = s.params.longTicks + 1 → ps[0]? = some true →
    ∀ atS atM atL, ps[s.params.shortTicks]? = some atS → ps[s.params.midTicks]? = some atM →
      ps[s.params.longTicks]? = some atL →
      (∀ k ≤ s.params.midTicks, ∃ t, ticks (ps.take k) s = some t ∧ t.db.pending = false) ∧
      (atS = true → atM = false → ∃ t, ticks (ps.take (s.params.midTicks + 1)) s = some t ∧
        t.db.event = .short ∧ t.db.pending = true ∧ t.db.cnt = 0 ∧ t.db.prov = false) ∧
      (¬ (atS = true ∧ atM = false) → ∃ t, ticks ps s = some t ∧ t.db.cnt = 0 ∧ t.db.prov = false ∧
        t.db.event = (if atL then .long else if atS then .short else .none) ∧ t.db.pending = (atL || atS))

/-- 44_debounce_demo.md R305, item 1: from DB_CNT = c ≥ 1 the machine is back at 0 within L - c + 1 ticks, whatever the
input. -/
def Obligations.CycleEnds : Prop :=
  ∀ (s : State) (ps : List Bool), s.params.Ok → 1 ≤ s.db.cnt.toNat → s.db.cnt.toNat ≤ s.params.longTicks →
    ps.length = s.params.longTicks - s.db.cnt.toNat + 1 →
    ∃ k ≤ ps.length, ∃ t, ticks (ps.take k) s = some t ∧ t.db.cnt = 0

/-- 44_debounce_demo.md R300, R304 and 40_host_access.md R145: a write to DB_STATUS. Bit 2 clears PENDING and EVENT, bit
3 clears NEXT_REQ, each alone; a 0 leaves its flag; no other field and no other unit changes. -/
def Obligations.AcknowledgeWrite : Prop :=
  ∀ (s : State) (v : Word), ∃ t, hostWrite 0x020 v s = .next t ∧
    t = { s with db := { s.db with event := t.db.event, pending := t.db.pending, nextReq := t.db.nextReq } } ∧
    (v.getLsbD 2 = true → t.db.pending = false ∧ t.db.event = .none) ∧
    (v.getLsbD 2 = false → t.db.pending = s.db.pending ∧ t.db.event = s.db.event) ∧
    (v.getLsbD 3 = true → t.db.nextReq = false) ∧ (v.getLsbD 3 = false → t.db.nextReq = s.db.nextReq)

/-- 44_debounce_demo.md R302, R303: a DEMO_CTRL write sets DEMO_EN from bit 0 and zeroes DEMO_CNT and nothing else. With
demo mode on, each tick counts until DEMO_TICKS, when NEXT_REQ is raised and the counter is 0; with it off the counter
and NEXT_REQ stay. -/
def Obligations.DemoPeriod : Prop :=
  ∀ (s : State) (v : Word) (ps : List Bool), s.params.Ok → s.db.cnt.toNat ≤ s.params.longTicks →
    ∃ t u, hostWrite 0x024 v s = .next t ∧ t = { s with demo := ⟨v.getLsbD 0, 0⟩ } ∧ ticks ps t = some u ∧
      u.demo.en = v.getLsbD 0 ∧
      (v.getLsbD 0 = false → u.demo.cnt = 0 ∧ u.db.nextReq = s.db.nextReq) ∧
      (v.getLsbD 0 = true → u.demo.cnt.toNat = ps.length % s.params.demoTicks ∧
        u.db.nextReq = (s.db.nextReq || decide (s.params.demoTicks ≤ ps.length)))

/-- 20_memory.md R82: each unit's fields have one writer. A tick leaves all but the debounce unit and the demo counter;
a TX turn leaves all but the transmitter; a host access leaves the debounce unit and the demo counter unless it is
an acknowledge or a DEMO_CTRL write, and never touches TX_POS, TX_LATCH, TX_BITS, FRAMES or the line but by an
accepted TRANSMIT. No step changes the parameters. The inputs, `rdata` and the parameters' place in the state are the
model's own (log entries 1, 2 and 5). -/
def Obligations.OneWriterPerField : Prop :=
  ∀ s t : State, step s = .next t →
    t.params = s.params ∧
    (∀ p rest, s.inputs = .tick p :: rest → t = { s with db := t.db, demo := t.demo, inputs := rest } ∧
      t.demo.en = s.demo.en) ∧
    (∀ rest, s.inputs = .txTurn :: rest → t = { s with tx := t.tx, inputs := rest }) ∧
    (s.inputs = [] → t = { s with tx := t.tx }) ∧
    (∀ a rest, s.inputs = .read a :: rest → t = { s with rdata := t.rdata, inputs := rest }) ∧
    ∀ a v rest, s.inputs = .write a v :: rest →
      (a ≠ 0x020 → t.db = s.db) ∧ (a ≠ 0x024 → t.demo = s.demo) ∧
      (t.tx = s.tx ∨ (a = 0x010 ∧ v = 0x20000000 ∧ s.tx.busy = false))

/-! ### Invariants (10_state.md R45) -/

/-- The invariants hold in the reset state of every block whose parameters meet their constraint
(70_reset_and_hazards.md R371), and the default parameters do. The clause `synced` of `State.Inv` is the model's choice
(log entry 6). -/
def Obligations.InvariantsHoldAtReset : Prop := (∀ p : Params, p.Ok → (State.resetOf p).Inv) ∧ State.reset.Inv

/-- Every step keeps the invariants of 10_state.md R45 and the shape of the stored data. The clause `synced` of
`State.Inv`, what the BTN_SYNC flops hold between ticks, is the model's choice (log entry 6). -/
def Obligations.StepKeepsInvariants : Prop := ∀ s t : State, s.Inv → step s = .next t → t.Inv

/-- A good state never gets stuck: a step completes, unless the host's next access is misaligned, and then it is refused
(10_state.md R45, 20_memory.md R73, 70_reset_and_hazards.md R387). -/
def Obligations.GoodStatesNeverStick : Prop :=
  ∀ s : State, s.Inv →
    (∃ t, step s = .next t) ∨
    (step s = .refused .misalignedAccess ∧
      ∃ a, a.toNat % 4 ≠ 0 ∧ (s.inputs.head? = some (.read a) ∨ ∃ v, s.inputs.head? = some (.write a v)))
end

