-- ==== Sys2Proof/Laws/State.lean ====
section
/-!
SUPPORT. What each named update of the state does to each field, true by unfolding once. Later proofs cite these and
never unfold an update.
-/

namespace Sys2Proof.Machine


/-! ### Raising an error (60_exceptions.md R333) -/

@[simp] theorem State.raise_params (s : State) (c : Cause) (info : Word) : (s.raise c info).params = s.params := rfl
@[simp] theorem State.raise_err (s : State) (c : Cause) (info : Word) : (s.raise c info).err = s.err.record c info := rfl
@[simp] theorem State.raise_argColor (s : State) (c : Cause) (info : Word) : (s.raise c info).argColor = s.argColor := rfl
@[simp] theorem State.raise_argMask (s : State) (c : Cause) (info : Word) : (s.raise c info).argMask = s.argMask := rfl
@[simp] theorem State.raise_nzCount (s : State) (c : Cause) (info : Word) : (s.raise c info).nzCount = s.nzCount := rfl
@[simp] theorem State.raise_dirty (s : State) (c : Cause) (info : Word) : (s.raise c info).dirty = s.dirty := rfl
@[simp] theorem State.raise_pstat (s : State) (c : Cause) (info : Word) : (s.raise c info).pstat = s.pstat := rfl
@[simp] theorem State.raise_fadeActive (s : State) (c : Cause) (info : Word) : (s.raise c info).fadeActive = s.fadeActive := rfl
@[simp] theorem State.raise_patIdx (s : State) (c : Cause) (info : Word) : (s.raise c info).patIdx = s.patIdx := rfl
@[simp] theorem State.raise_fadeDelay (s : State) (c : Cause) (info : Word) : (s.raise c info).fadeDelay = s.fadeDelay := rfl
@[simp] theorem State.raise_gen (s : State) (c : Cause) (info : Word) : (s.raise c info).gen = s.gen := rfl
@[simp] theorem State.raise_groupMasks (s : State) (c : Cause) (info : Word) : (s.raise c info).groupMasks = s.groupMasks := rfl
@[simp] theorem State.raise_palette (s : State) (c : Cause) (info : Word) : (s.raise c info).palette = s.palette := rfl
@[simp] theorem State.raise_slotCfg (s : State) (c : Cause) (info : Word) : (s.raise c info).slotCfg = s.slotCfg := rfl
@[simp] theorem State.raise_buf (s : State) (c : Cause) (info : Word) : (s.raise c info).buf = s.buf := rfl
@[simp] theorem State.raise_tx (s : State) (c : Cause) (info : Word) : (s.raise c info).tx = s.tx := rfl
@[simp] theorem State.raise_db (s : State) (c : Cause) (info : Word) : (s.raise c info).db = s.db := rfl
@[simp] theorem State.raise_demo (s : State) (c : Cause) (info : Word) : (s.raise c info).demo = s.demo := rfl
@[simp] theorem State.raise_rdata (s : State) (c : Cause) (info : Word) : (s.raise c info).rdata = s.rdata := rfl
@[simp] theorem State.raise_inputs (s : State) (c : Cause) (info : Word) : (s.raise c info).inputs = s.inputs := rfl
@[simp] theorem State.raise_rand (s : State) (c : Cause) (info : Word) : (s.raise c info).rand = s.rand := rfl

/-! ### Clearing the error record (60_exceptions.md R336) -/

@[simp] theorem State.clearErr_params (s : State) : (s.clearErr).params = s.params := rfl
@[simp] theorem State.clearErr_err (s : State) : (s.clearErr).err = ⟨.none, false, 0⟩ := rfl
@[simp] theorem State.clearErr_argColor (s : State) : (s.clearErr).argColor = s.argColor := rfl
@[simp] theorem State.clearErr_argMask (s : State) : (s.clearErr).argMask = s.argMask := rfl
@[simp] theorem State.clearErr_nzCount (s : State) : (s.clearErr).nzCount = s.nzCount := rfl
@[simp] theorem State.clearErr_dirty (s : State) : (s.clearErr).dirty = s.dirty := rfl
@[simp] theorem State.clearErr_pstat (s : State) : (s.clearErr).pstat = s.pstat := rfl
@[simp] theorem State.clearErr_fadeActive (s : State) : (s.clearErr).fadeActive = s.fadeActive := rfl
@[simp] theorem State.clearErr_patIdx (s : State) : (s.clearErr).patIdx = s.patIdx := rfl
@[simp] theorem State.clearErr_fadeDelay (s : State) : (s.clearErr).fadeDelay = s.fadeDelay := rfl
@[simp] theorem State.clearErr_gen (s : State) : (s.clearErr).gen = s.gen := rfl
@[simp] theorem State.clearErr_groupMasks (s : State) : (s.clearErr).groupMasks = s.groupMasks := rfl
@[simp] theorem State.clearErr_palette (s : State) : (s.clearErr).palette = s.palette := rfl
@[simp] theorem State.clearErr_slotCfg (s : State) : (s.clearErr).slotCfg = s.slotCfg := rfl
@[simp] theorem State.clearErr_buf (s : State) : (s.clearErr).buf = s.buf := rfl
@[simp] theorem State.clearErr_tx (s : State) : (s.clearErr).tx = s.tx := rfl
@[simp] theorem State.clearErr_db (s : State) : (s.clearErr).db = s.db := rfl
@[simp] theorem State.clearErr_demo (s : State) : (s.clearErr).demo = s.demo := rfl
@[simp] theorem State.clearErr_rdata (s : State) : (s.clearErr).rdata = s.rdata := rfl
@[simp] theorem State.clearErr_inputs (s : State) : (s.clearErr).inputs = s.inputs := rfl
@[simp] theorem State.clearErr_rand (s : State) : (s.clearErr).rand = s.rand := rfl

/-! ### Writing the colour buffer -/

@[simp] theorem State.paint_params (s : State) (f : Nat → Color) : (s.paint f).params = s.params := rfl
@[simp] theorem State.paint_err (s : State) (f : Nat → Color) : (s.paint f).err = s.err := rfl
@[simp] theorem State.paint_argColor (s : State) (f : Nat → Color) : (s.paint f).argColor = s.argColor := rfl
@[simp] theorem State.paint_argMask (s : State) (f : Nat → Color) : (s.paint f).argMask = s.argMask := rfl
@[simp] theorem State.paint_nzCount (s : State) (f : Nat → Color) : (s.paint f).nzCount = s.nzCount := rfl
@[simp] theorem State.paint_dirty (s : State) (f : Nat → Color) : (s.paint f).dirty = s.dirty := rfl
@[simp] theorem State.paint_pstat (s : State) (f : Nat → Color) : (s.paint f).pstat = s.pstat := rfl
@[simp] theorem State.paint_fadeActive (s : State) (f : Nat → Color) : (s.paint f).fadeActive = s.fadeActive := rfl
@[simp] theorem State.paint_patIdx (s : State) (f : Nat → Color) : (s.paint f).patIdx = s.patIdx := rfl
@[simp] theorem State.paint_fadeDelay (s : State) (f : Nat → Color) : (s.paint f).fadeDelay = s.fadeDelay := rfl
@[simp] theorem State.paint_gen (s : State) (f : Nat → Color) : (s.paint f).gen = s.gen := rfl
@[simp] theorem State.paint_groupMasks (s : State) (f : Nat → Color) : (s.paint f).groupMasks = s.groupMasks := rfl
@[simp] theorem State.paint_palette (s : State) (f : Nat → Color) : (s.paint f).palette = s.palette := rfl
@[simp] theorem State.paint_slotCfg (s : State) (f : Nat → Color) : (s.paint f).slotCfg = s.slotCfg := rfl
@[simp] theorem State.paint_buf (s : State) (f : Nat → Color) : (s.paint f).buf = (List.range s.params.n).map f := rfl
@[simp] theorem State.paint_tx (s : State) (f : Nat → Color) : (s.paint f).tx = s.tx := rfl
@[simp] theorem State.paint_db (s : State) (f : Nat → Color) : (s.paint f).db = s.db := rfl
@[simp] theorem State.paint_demo (s : State) (f : Nat → Color) : (s.paint f).demo = s.demo := rfl
@[simp] theorem State.paint_rdata (s : State) (f : Nat → Color) : (s.paint f).rdata = s.rdata := rfl
@[simp] theorem State.paint_inputs (s : State) (f : Nat → Color) : (s.paint f).inputs = s.inputs := rfl
@[simp] theorem State.paint_rand (s : State) (f : Nat → Color) : (s.paint f).rand = s.rand := rfl

/-! ### STATUS.DIRTY <- 1 -/

@[simp] theorem State.markDirty_params (s : State) : (s.markDirty).params = s.params := rfl
@[simp] theorem State.markDirty_err (s : State) : (s.markDirty).err = s.err := rfl
@[simp] theorem State.markDirty_argColor (s : State) : (s.markDirty).argColor = s.argColor := rfl
@[simp] theorem State.markDirty_argMask (s : State) : (s.markDirty).argMask = s.argMask := rfl
@[simp] theorem State.markDirty_nzCount (s : State) : (s.markDirty).nzCount = s.nzCount := rfl
@[simp] theorem State.markDirty_dirty (s : State) : (s.markDirty).dirty = true := rfl
@[simp] theorem State.markDirty_pstat (s : State) : (s.markDirty).pstat = s.pstat := rfl
@[simp] theorem State.markDirty_fadeActive (s : State) : (s.markDirty).fadeActive = s.fadeActive := rfl
@[simp] theorem State.markDirty_patIdx (s : State) : (s.markDirty).patIdx = s.patIdx := rfl
@[simp] theorem State.markDirty_fadeDelay (s : State) : (s.markDirty).fadeDelay = s.fadeDelay := rfl
@[simp] theorem State.markDirty_gen (s : State) : (s.markDirty).gen = s.gen := rfl
@[simp] theorem State.markDirty_groupMasks (s : State) : (s.markDirty).groupMasks = s.groupMasks := rfl
@[simp] theorem State.markDirty_palette (s : State) : (s.markDirty).palette = s.palette := rfl
@[simp] theorem State.markDirty_slotCfg (s : State) : (s.markDirty).slotCfg = s.slotCfg := rfl
@[simp] theorem State.markDirty_buf (s : State) : (s.markDirty).buf = s.buf := rfl
@[simp] theorem State.markDirty_tx (s : State) : (s.markDirty).tx = s.tx := rfl
@[simp] theorem State.markDirty_db (s : State) : (s.markDirty).db = s.db := rfl
@[simp] theorem State.markDirty_demo (s : State) : (s.markDirty).demo = s.demo := rfl
@[simp] theorem State.markDirty_rdata (s : State) : (s.markDirty).rdata = s.rdata := rfl
@[simp] theorem State.markDirty_inputs (s : State) : (s.markDirty).inputs = s.inputs := rfl
@[simp] theorem State.markDirty_rand (s : State) : (s.markDirty).rand = s.rand := rfl

/-! ### The end of a STEP (42_pattern_engine.md R203) -/

@[simp] theorem State.recordStatus_params (s : State) (r : PStatus) : (s.recordStatus r).params = s.params := rfl
@[simp] theorem State.recordStatus_err (s : State) (r : PStatus) : (s.recordStatus r).err = s.err := rfl
@[simp] theorem State.recordStatus_argColor (s : State) (r : PStatus) : (s.recordStatus r).argColor = s.argColor := rfl
@[simp] theorem State.recordStatus_argMask (s : State) (r : PStatus) : (s.recordStatus r).argMask = s.argMask := rfl
@[simp] theorem State.recordStatus_nzCount (s : State) (r : PStatus) : (s.recordStatus r).nzCount = s.nzCount := rfl
@[simp] theorem State.recordStatus_dirty (s : State) (r : PStatus) : (s.recordStatus r).dirty = if r = .refresh then true else s.dirty := rfl
@[simp] theorem State.recordStatus_pstat (s : State) (r : PStatus) : (s.recordStatus r).pstat = r := rfl
@[simp] theorem State.recordStatus_fadeActive (s : State) (r : PStatus) : (s.recordStatus r).fadeActive = s.fadeActive := rfl
@[simp] theorem State.recordStatus_patIdx (s : State) (r : PStatus) : (s.recordStatus r).patIdx = s.patIdx := rfl
@[simp] theorem State.recordStatus_fadeDelay (s : State) (r : PStatus) : (s.recordStatus r).fadeDelay = s.fadeDelay := rfl
@[simp] theorem State.recordStatus_gen (s : State) (r : PStatus) : (s.recordStatus r).gen = s.gen := rfl
@[simp] theorem State.recordStatus_groupMasks (s : State) (r : PStatus) : (s.recordStatus r).groupMasks = s.groupMasks := rfl
@[simp] theorem State.recordStatus_palette (s : State) (r : PStatus) : (s.recordStatus r).palette = s.palette := rfl
@[simp] theorem State.recordStatus_slotCfg (s : State) (r : PStatus) : (s.recordStatus r).slotCfg = s.slotCfg := rfl
@[simp] theorem State.recordStatus_buf (s : State) (r : PStatus) : (s.recordStatus r).buf = s.buf := rfl
@[simp] theorem State.recordStatus_tx (s : State) (r : PStatus) : (s.recordStatus r).tx = s.tx := rfl
@[simp] theorem State.recordStatus_db (s : State) (r : PStatus) : (s.recordStatus r).db = s.db := rfl
@[simp] theorem State.recordStatus_demo (s : State) (r : PStatus) : (s.recordStatus r).demo = s.demo := rfl
@[simp] theorem State.recordStatus_rdata (s : State) (r : PStatus) : (s.recordStatus r).rdata = s.rdata := rfl
@[simp] theorem State.recordStatus_inputs (s : State) (r : PStatus) : (s.recordStatus r).inputs = s.inputs := rfl
@[simp] theorem State.recordStatus_rand (s : State) (r : PStatus) : (s.recordStatus r).rand = s.rand := rfl

/-! ### GEN_STATE.CNT -/

@[simp] theorem State.setCnt_params (s : State) (v : Byte) : (s.setCnt v).params = s.params := rfl
@[simp] theorem State.setCnt_err (s : State) (v : Byte) : (s.setCnt v).err = s.err := rfl
@[simp] theorem State.setCnt_argColor (s : State) (v : Byte) : (s.setCnt v).argColor = s.argColor := rfl
@[simp] theorem State.setCnt_argMask (s : State) (v : Byte) : (s.setCnt v).argMask = s.argMask := rfl
@[simp] theorem State.setCnt_nzCount (s : State) (v : Byte) : (s.setCnt v).nzCount = s.nzCount := rfl
@[simp] theorem State.setCnt_dirty (s : State) (v : Byte) : (s.setCnt v).dirty = s.dirty := rfl
@[simp] theorem State.setCnt_pstat (s : State) (v : Byte) : (s.setCnt v).pstat = s.pstat := rfl
@[simp] theorem State.setCnt_fadeActive (s : State) (v : Byte) : (s.setCnt v).fadeActive = s.fadeActive := rfl
@[simp] theorem State.setCnt_patIdx (s : State) (v : Byte) : (s.setCnt v).patIdx = s.patIdx := rfl
@[simp] theorem State.setCnt_fadeDelay (s : State) (v : Byte) : (s.setCnt v).fadeDelay = s.fadeDelay := rfl
@[simp] theorem State.setCnt_gen (s : State) (v : Byte) : (s.setCnt v).gen = { s.gen with cnt := v } := rfl
@[simp] theorem State.setCnt_groupMasks (s : State) (v : Byte) : (s.setCnt v).groupMasks = s.groupMasks := rfl
@[simp] theorem State.setCnt_palette (s : State) (v : Byte) : (s.setCnt v).palette = s.palette := rfl
@[simp] theorem State.setCnt_slotCfg (s : State) (v : Byte) : (s.setCnt v).slotCfg = s.slotCfg := rfl
@[simp] theorem State.setCnt_buf (s : State) (v : Byte) : (s.setCnt v).buf = s.buf := rfl
@[simp] theorem State.setCnt_tx (s : State) (v : Byte) : (s.setCnt v).tx = s.tx := rfl
@[simp] theorem State.setCnt_db (s : State) (v : Byte) : (s.setCnt v).db = s.db := rfl
@[simp] theorem State.setCnt_demo (s : State) (v : Byte) : (s.setCnt v).demo = s.demo := rfl
@[simp] theorem State.setCnt_rdata (s : State) (v : Byte) : (s.setCnt v).rdata = s.rdata := rfl
@[simp] theorem State.setCnt_inputs (s : State) (v : Byte) : (s.setCnt v).inputs = s.inputs := rfl
@[simp] theorem State.setCnt_rand (s : State) (v : Byte) : (s.setCnt v).rand = s.rand := rfl

/-! ### GEN_STATE.MASK -/

@[simp] theorem State.setMask_params (s : State) (v : BitVec 3) : (s.setMask v).params = s.params := rfl
@[simp] theorem State.setMask_err (s : State) (v : BitVec 3) : (s.setMask v).err = s.err := rfl
@[simp] theorem State.setMask_argColor (s : State) (v : BitVec 3) : (s.setMask v).argColor = s.argColor := rfl
@[simp] theorem State.setMask_argMask (s : State) (v : BitVec 3) : (s.setMask v).argMask = s.argMask := rfl
@[simp] theorem State.setMask_nzCount (s : State) (v : BitVec 3) : (s.setMask v).nzCount = s.nzCount := rfl
@[simp] theorem State.setMask_dirty (s : State) (v : BitVec 3) : (s.setMask v).dirty = s.dirty := rfl
@[simp] theorem State.setMask_pstat (s : State) (v : BitVec 3) : (s.setMask v).pstat = s.pstat := rfl
@[simp] theorem State.setMask_fadeActive (s : State) (v : BitVec 3) : (s.setMask v).fadeActive = s.fadeActive := rfl
@[simp] theorem State.setMask_patIdx (s : State) (v : BitVec 3) : (s.setMask v).patIdx = s.patIdx := rfl
@[simp] theorem State.setMask_fadeDelay (s : State) (v : BitVec 3) : (s.setMask v).fadeDelay = s.fadeDelay := rfl
@[simp] theorem State.setMask_gen (s : State) (v : BitVec 3) : (s.setMask v).gen = { s.gen with mask := v } := rfl
@[simp] theorem State.setMask_groupMasks (s : State) (v : BitVec 3) : (s.setMask v).groupMasks = s.groupMasks := rfl
@[simp] theorem State.setMask_palette (s : State) (v : BitVec 3) : (s.setMask v).palette = s.palette := rfl
@[simp] theorem State.setMask_slotCfg (s : State) (v : BitVec 3) : (s.setMask v).slotCfg = s.slotCfg := rfl
@[simp] theorem State.setMask_buf (s : State) (v : BitVec 3) : (s.setMask v).buf = s.buf := rfl
@[simp] theorem State.setMask_tx (s : State) (v : BitVec 3) : (s.setMask v).tx = s.tx := rfl
@[simp] theorem State.setMask_db (s : State) (v : BitVec 3) : (s.setMask v).db = s.db := rfl
@[simp] theorem State.setMask_demo (s : State) (v : BitVec 3) : (s.setMask v).demo = s.demo := rfl
@[simp] theorem State.setMask_rdata (s : State) (v : BitVec 3) : (s.setMask v).rdata = s.rdata := rfl
@[simp] theorem State.setMask_inputs (s : State) (v : BitVec 3) : (s.setMask v).inputs = s.inputs := rfl
@[simp] theorem State.setMask_rand (s : State) (v : BitVec 3) : (s.setMask v).rand = s.rand := rfl

/-! ### GEN_STATE.PHASE -/

@[simp] theorem State.setPhase_params (s : State) (v : BitVec 2) : (s.setPhase v).params = s.params := rfl
@[simp] theorem State.setPhase_err (s : State) (v : BitVec 2) : (s.setPhase v).err = s.err := rfl
@[simp] theorem State.setPhase_argColor (s : State) (v : BitVec 2) : (s.setPhase v).argColor = s.argColor := rfl
@[simp] theorem State.setPhase_argMask (s : State) (v : BitVec 2) : (s.setPhase v).argMask = s.argMask := rfl
@[simp] theorem State.setPhase_nzCount (s : State) (v : BitVec 2) : (s.setPhase v).nzCount = s.nzCount := rfl
@[simp] theorem State.setPhase_dirty (s : State) (v : BitVec 2) : (s.setPhase v).dirty = s.dirty := rfl
@[simp] theorem State.setPhase_pstat (s : State) (v : BitVec 2) : (s.setPhase v).pstat = s.pstat := rfl
@[simp] theorem State.setPhase_fadeActive (s : State) (v : BitVec 2) : (s.setPhase v).fadeActive = s.fadeActive := rfl
@[simp] theorem State.setPhase_patIdx (s : State) (v : BitVec 2) : (s.setPhase v).patIdx = s.patIdx := rfl
@[simp] theorem State.setPhase_fadeDelay (s : State) (v : BitVec 2) : (s.setPhase v).fadeDelay = s.fadeDelay := rfl
@[simp] theorem State.setPhase_gen (s : State) (v : BitVec 2) : (s.setPhase v).gen = { s.gen with phase := v } := rfl
@[simp] theorem State.setPhase_groupMasks (s : State) (v : BitVec 2) : (s.setPhase v).groupMasks = s.groupMasks := rfl
@[simp] theorem State.setPhase_palette (s : State) (v : BitVec 2) : (s.setPhase v).palette = s.palette := rfl
@[simp] theorem State.setPhase_slotCfg (s : State) (v : BitVec 2) : (s.setPhase v).slotCfg = s.slotCfg := rfl
@[simp] theorem State.setPhase_buf (s : State) (v : BitVec 2) : (s.setPhase v).buf = s.buf := rfl
@[simp] theorem State.setPhase_tx (s : State) (v : BitVec 2) : (s.setPhase v).tx = s.tx := rfl
@[simp] theorem State.setPhase_db (s : State) (v : BitVec 2) : (s.setPhase v).db = s.db := rfl
@[simp] theorem State.setPhase_demo (s : State) (v : BitVec 2) : (s.setPhase v).demo = s.demo := rfl
@[simp] theorem State.setPhase_rdata (s : State) (v : BitVec 2) : (s.setPhase v).rdata = s.rdata := rfl
@[simp] theorem State.setPhase_inputs (s : State) (v : BitVec 2) : (s.setPhase v).inputs = s.inputs := rfl
@[simp] theorem State.setPhase_rand (s : State) (v : BitVec 2) : (s.setPhase v).rand = s.rand := rfl

/-! ### GEN_STATE.FADE_CNT -/

@[simp] theorem State.setFadeCnt_params (s : State) (v : Byte) : (s.setFadeCnt v).params = s.params := rfl
@[simp] theorem State.setFadeCnt_err (s : State) (v : Byte) : (s.setFadeCnt v).err = s.err := rfl
@[simp] theorem State.setFadeCnt_argColor (s : State) (v : Byte) : (s.setFadeCnt v).argColor = s.argColor := rfl
@[simp] theorem State.setFadeCnt_argMask (s : State) (v : Byte) : (s.setFadeCnt v).argMask = s.argMask := rfl
@[simp] theorem State.setFadeCnt_nzCount (s : State) (v : Byte) : (s.setFadeCnt v).nzCount = s.nzCount := rfl
@[simp] theorem State.setFadeCnt_dirty (s : State) (v : Byte) : (s.setFadeCnt v).dirty = s.dirty := rfl
@[simp] theorem State.setFadeCnt_pstat (s : State) (v : Byte) : (s.setFadeCnt v).pstat = s.pstat := rfl
@[simp] theorem State.setFadeCnt_fadeActive (s : State) (v : Byte) : (s.setFadeCnt v).fadeActive = s.fadeActive := rfl
@[simp] theorem State.setFadeCnt_patIdx (s : State) (v : Byte) : (s.setFadeCnt v).patIdx = s.patIdx := rfl
@[simp] theorem State.setFadeCnt_fadeDelay (s : State) (v : Byte) : (s.setFadeCnt v).fadeDelay = s.fadeDelay := rfl
@[simp] theorem State.setFadeCnt_gen (s : State) (v : Byte) : (s.setFadeCnt v).gen = { s.gen with fadeCnt := v } := rfl
@[simp] theorem State.setFadeCnt_groupMasks (s : State) (v : Byte) : (s.setFadeCnt v).groupMasks = s.groupMasks := rfl
@[simp] theorem State.setFadeCnt_palette (s : State) (v : Byte) : (s.setFadeCnt v).palette = s.palette := rfl
@[simp] theorem State.setFadeCnt_slotCfg (s : State) (v : Byte) : (s.setFadeCnt v).slotCfg = s.slotCfg := rfl
@[simp] theorem State.setFadeCnt_buf (s : State) (v : Byte) : (s.setFadeCnt v).buf = s.buf := rfl
@[simp] theorem State.setFadeCnt_tx (s : State) (v : Byte) : (s.setFadeCnt v).tx = s.tx := rfl
@[simp] theorem State.setFadeCnt_db (s : State) (v : Byte) : (s.setFadeCnt v).db = s.db := rfl
@[simp] theorem State.setFadeCnt_demo (s : State) (v : Byte) : (s.setFadeCnt v).demo = s.demo := rfl
@[simp] theorem State.setFadeCnt_rdata (s : State) (v : Byte) : (s.setFadeCnt v).rdata = s.rdata := rfl
@[simp] theorem State.setFadeCnt_inputs (s : State) (v : Byte) : (s.setFadeCnt v).inputs = s.inputs := rfl
@[simp] theorem State.setFadeCnt_rand (s : State) (v : Byte) : (s.setFadeCnt v).rand = s.rand := rfl

/-! ### Drawing GEN_RCOLOR -/

@[simp] theorem State.drawRcolor_params (s : State) : (s.drawRcolor).params = s.params := rfl
@[simp] theorem State.drawRcolor_err (s : State) : (s.drawRcolor).err = s.err := rfl
@[simp] theorem State.drawRcolor_argColor (s : State) : (s.drawRcolor).argColor = s.argColor := rfl
@[simp] theorem State.drawRcolor_argMask (s : State) : (s.drawRcolor).argMask = s.argMask := rfl
@[simp] theorem State.drawRcolor_nzCount (s : State) : (s.drawRcolor).nzCount = s.nzCount := rfl
@[simp] theorem State.drawRcolor_dirty (s : State) : (s.drawRcolor).dirty = s.dirty := rfl
@[simp] theorem State.drawRcolor_pstat (s : State) : (s.drawRcolor).pstat = s.pstat := rfl
@[simp] theorem State.drawRcolor_fadeActive (s : State) : (s.drawRcolor).fadeActive = s.fadeActive := rfl
@[simp] theorem State.drawRcolor_patIdx (s : State) : (s.drawRcolor).patIdx = s.patIdx := rfl
@[simp] theorem State.drawRcolor_fadeDelay (s : State) : (s.drawRcolor).fadeDelay = s.fadeDelay := rfl
@[simp] theorem State.drawRcolor_gen (s : State) : (s.drawRcolor).gen = { s.gen with rcolor := s.rand.drawColor 0 } := rfl
@[simp] theorem State.drawRcolor_groupMasks (s : State) : (s.drawRcolor).groupMasks = s.groupMasks := rfl
@[simp] theorem State.drawRcolor_palette (s : State) : (s.drawRcolor).palette = s.palette := rfl
@[simp] theorem State.drawRcolor_slotCfg (s : State) : (s.drawRcolor).slotCfg = s.slotCfg := rfl
@[simp] theorem State.drawRcolor_buf (s : State) : (s.drawRcolor).buf = s.buf := rfl
@[simp] theorem State.drawRcolor_tx (s : State) : (s.drawRcolor).tx = s.tx := rfl
@[simp] theorem State.drawRcolor_db (s : State) : (s.drawRcolor).db = s.db := rfl
@[simp] theorem State.drawRcolor_demo (s : State) : (s.drawRcolor).demo = s.demo := rfl
@[simp] theorem State.drawRcolor_rdata (s : State) : (s.drawRcolor).rdata = s.rdata := rfl
@[simp] theorem State.drawRcolor_inputs (s : State) : (s.drawRcolor).inputs = s.inputs := rfl
@[simp] theorem State.drawRcolor_rand (s : State) : (s.drawRcolor).rand = s.rand.advance 3 := rfl

/-! ### The TX emit step (41_transmitter.md R176) -/

@[simp] theorem State.emitBit_params (s : State) (b : Bool) : (s.emitBit b).params = s.params := rfl
@[simp] theorem State.emitBit_err (s : State) (b : Bool) : (s.emitBit b).err = s.err := rfl
@[simp] theorem State.emitBit_argColor (s : State) (b : Bool) : (s.emitBit b).argColor = s.argColor := rfl
@[simp] theorem State.emitBit_argMask (s : State) (b : Bool) : (s.emitBit b).argMask = s.argMask := rfl
@[simp] theorem State.emitBit_nzCount (s : State) (b : Bool) : (s.emitBit b).nzCount = s.nzCount := rfl
@[simp] theorem State.emitBit_dirty (s : State) (b : Bool) : (s.emitBit b).dirty = s.dirty := rfl
@[simp] theorem State.emitBit_pstat (s : State) (b : Bool) : (s.emitBit b).pstat = s.pstat := rfl
@[simp] theorem State.emitBit_fadeActive (s : State) (b : Bool) : (s.emitBit b).fadeActive = s.fadeActive := rfl
@[simp] theorem State.emitBit_patIdx (s : State) (b : Bool) : (s.emitBit b).patIdx = s.patIdx := rfl
@[simp] theorem State.emitBit_fadeDelay (s : State) (b : Bool) : (s.emitBit b).fadeDelay = s.fadeDelay := rfl
@[simp] theorem State.emitBit_gen (s : State) (b : Bool) : (s.emitBit b).gen = s.gen := rfl
@[simp] theorem State.emitBit_groupMasks (s : State) (b : Bool) : (s.emitBit b).groupMasks = s.groupMasks := rfl
@[simp] theorem State.emitBit_palette (s : State) (b : Bool) : (s.emitBit b).palette = s.palette := rfl
@[simp] theorem State.emitBit_slotCfg (s : State) (b : Bool) : (s.emitBit b).slotCfg = s.slotCfg := rfl
@[simp] theorem State.emitBit_buf (s : State) (b : Bool) : (s.emitBit b).buf = s.buf := rfl
@[simp] theorem State.emitBit_db (s : State) (b : Bool) : (s.emitBit b).db = s.db := rfl
@[simp] theorem State.emitBit_demo (s : State) (b : Bool) : (s.emitBit b).demo = s.demo := rfl
@[simp] theorem State.emitBit_rdata (s : State) (b : Bool) : (s.emitBit b).rdata = s.rdata := rfl
@[simp] theorem State.emitBit_inputs (s : State) (b : Bool) : (s.emitBit b).inputs = s.inputs := rfl
@[simp] theorem State.emitBit_rand (s : State) (b : Bool) : (s.emitBit b).rand = s.rand := rfl

/-! ### The TX latch step (41_transmitter.md R177) -/

@[simp] theorem State.latchFrame_params (s : State) : (s.latchFrame).params = s.params := rfl
@[simp] theorem State.latchFrame_err (s : State) : (s.latchFrame).err = s.err := rfl
@[simp] theorem State.latchFrame_argColor (s : State) : (s.latchFrame).argColor = s.argColor := rfl
@[simp] theorem State.latchFrame_argMask (s : State) : (s.latchFrame).argMask = s.argMask := rfl
@[simp] theorem State.latchFrame_nzCount (s : State) : (s.latchFrame).nzCount = s.nzCount := rfl
@[simp] theorem State.latchFrame_dirty (s : State) : (s.latchFrame).dirty = s.dirty := rfl
@[simp] theorem State.latchFrame_pstat (s : State) : (s.latchFrame).pstat = s.pstat := rfl
@[simp] theorem State.latchFrame_fadeActive (s : State) : (s.latchFrame).fadeActive = s.fadeActive := rfl
@[simp] theorem State.latchFrame_patIdx (s : State) : (s.latchFrame).patIdx = s.patIdx := rfl
@[simp] theorem State.latchFrame_fadeDelay (s : State) : (s.latchFrame).fadeDelay = s.fadeDelay := rfl
@[simp] theorem State.latchFrame_gen (s : State) : (s.latchFrame).gen = s.gen := rfl
@[simp] theorem State.latchFrame_groupMasks (s : State) : (s.latchFrame).groupMasks = s.groupMasks := rfl
@[simp] theorem State.latchFrame_palette (s : State) : (s.latchFrame).palette = s.palette := rfl
@[simp] theorem State.latchFrame_slotCfg (s : State) : (s.latchFrame).slotCfg = s.slotCfg := rfl
@[simp] theorem State.latchFrame_buf (s : State) : (s.latchFrame).buf = s.buf := rfl
@[simp] theorem State.latchFrame_db (s : State) : (s.latchFrame).db = s.db := rfl
@[simp] theorem State.latchFrame_demo (s : State) : (s.latchFrame).demo = s.demo := rfl
@[simp] theorem State.latchFrame_rdata (s : State) : (s.latchFrame).rdata = s.rdata := rfl
@[simp] theorem State.latchFrame_inputs (s : State) : (s.latchFrame).inputs = s.inputs := rfl
@[simp] theorem State.latchFrame_rand (s : State) : (s.latchFrame).rand = s.rand := rfl

/-! ### The DB_STATUS write (44_debounce_demo.md R300) -/

@[simp] theorem State.ackWrite_params (s : State) (v : Word) : (s.ackWrite v).params = s.params := rfl
@[simp] theorem State.ackWrite_err (s : State) (v : Word) : (s.ackWrite v).err = s.err := rfl
@[simp] theorem State.ackWrite_argColor (s : State) (v : Word) : (s.ackWrite v).argColor = s.argColor := rfl
@[simp] theorem State.ackWrite_argMask (s : State) (v : Word) : (s.ackWrite v).argMask = s.argMask := rfl
@[simp] theorem State.ackWrite_nzCount (s : State) (v : Word) : (s.ackWrite v).nzCount = s.nzCount := rfl
@[simp] theorem State.ackWrite_dirty (s : State) (v : Word) : (s.ackWrite v).dirty = s.dirty := rfl
@[simp] theorem State.ackWrite_pstat (s : State) (v : Word) : (s.ackWrite v).pstat = s.pstat := rfl
@[simp] theorem State.ackWrite_fadeActive (s : State) (v : Word) : (s.ackWrite v).fadeActive = s.fadeActive := rfl
@[simp] theorem State.ackWrite_patIdx (s : State) (v : Word) : (s.ackWrite v).patIdx = s.patIdx := rfl
@[simp] theorem State.ackWrite_fadeDelay (s : State) (v : Word) : (s.ackWrite v).fadeDelay = s.fadeDelay := rfl
@[simp] theorem State.ackWrite_gen (s : State) (v : Word) : (s.ackWrite v).gen = s.gen := rfl
@[simp] theorem State.ackWrite_groupMasks (s : State) (v : Word) : (s.ackWrite v).groupMasks = s.groupMasks := rfl
@[simp] theorem State.ackWrite_palette (s : State) (v : Word) : (s.ackWrite v).palette = s.palette := rfl
@[simp] theorem State.ackWrite_slotCfg (s : State) (v : Word) : (s.ackWrite v).slotCfg = s.slotCfg := rfl
@[simp] theorem State.ackWrite_buf (s : State) (v : Word) : (s.ackWrite v).buf = s.buf := rfl
@[simp] theorem State.ackWrite_tx (s : State) (v : Word) : (s.ackWrite v).tx = s.tx := rfl
@[simp] theorem State.ackWrite_demo (s : State) (v : Word) : (s.ackWrite v).demo = s.demo := rfl
@[simp] theorem State.ackWrite_rdata (s : State) (v : Word) : (s.ackWrite v).rdata = s.rdata := rfl
@[simp] theorem State.ackWrite_inputs (s : State) (v : Word) : (s.ackWrite v).inputs = s.inputs := rfl
@[simp] theorem State.ackWrite_rand (s : State) (v : Word) : (s.ackWrite v).rand = s.rand := rfl

/-! ### The DEMO_CTRL write (44_debounce_demo.md R303) -/

@[simp] theorem State.demoWrite_params (s : State) (v : Word) : (s.demoWrite v).params = s.params := rfl
@[simp] theorem State.demoWrite_err (s : State) (v : Word) : (s.demoWrite v).err = s.err := rfl
@[simp] theorem State.demoWrite_argColor (s : State) (v : Word) : (s.demoWrite v).argColor = s.argColor := rfl
@[simp] theorem State.demoWrite_argMask (s : State) (v : Word) : (s.demoWrite v).argMask = s.argMask := rfl
@[simp] theorem State.demoWrite_nzCount (s : State) (v : Word) : (s.demoWrite v).nzCount = s.nzCount := rfl
@[simp] theorem State.demoWrite_dirty (s : State) (v : Word) : (s.demoWrite v).dirty = s.dirty := rfl
@[simp] theorem State.demoWrite_pstat (s : State) (v : Word) : (s.demoWrite v).pstat = s.pstat := rfl
@[simp] theorem State.demoWrite_fadeActive (s : State) (v : Word) : (s.demoWrite v).fadeActive = s.fadeActive := rfl
@[simp] theorem State.demoWrite_patIdx (s : State) (v : Word) : (s.demoWrite v).patIdx = s.patIdx := rfl
@[simp] theorem State.demoWrite_fadeDelay (s : State) (v : Word) : (s.demoWrite v).fadeDelay = s.fadeDelay := rfl
@[simp] theorem State.demoWrite_gen (s : State) (v : Word) : (s.demoWrite v).gen = s.gen := rfl
@[simp] theorem State.demoWrite_groupMasks (s : State) (v : Word) : (s.demoWrite v).groupMasks = s.groupMasks := rfl
@[simp] theorem State.demoWrite_palette (s : State) (v : Word) : (s.demoWrite v).palette = s.palette := rfl
@[simp] theorem State.demoWrite_slotCfg (s : State) (v : Word) : (s.demoWrite v).slotCfg = s.slotCfg := rfl
@[simp] theorem State.demoWrite_buf (s : State) (v : Word) : (s.demoWrite v).buf = s.buf := rfl
@[simp] theorem State.demoWrite_tx (s : State) (v : Word) : (s.demoWrite v).tx = s.tx := rfl
@[simp] theorem State.demoWrite_db (s : State) (v : Word) : (s.demoWrite v).db = s.db := rfl
@[simp] theorem State.demoWrite_demo (s : State) (v : Word) : (s.demoWrite v).demo = ⟨v.getLsbD 0, 0⟩ := rfl
@[simp] theorem State.demoWrite_rdata (s : State) (v : Word) : (s.demoWrite v).rdata = s.rdata := rfl
@[simp] theorem State.demoWrite_inputs (s : State) (v : Word) : (s.demoWrite v).inputs = s.inputs := rfl
@[simp] theorem State.demoWrite_rand (s : State) (v : Word) : (s.demoWrite v).rand = s.rand := rfl

end Sys2Proof.Machine
end

