-- ==== Sys2Proof/Laws/Ops.lean ====
section
/-!
SUPPORT. One spec lemma for each shared operation, saying once what it does; proofs about commands cite these.
-/

namespace Sys2Proof.Machine

/-! ### The colour buffer -/

@[simp] theorem State.led_paint (s : State) (f : Nat → Color) (i : Nat) :
    (s.paint f).led i = if i < s.params.n then f i else 0 := by
  simp only [State.led, State.paint_buf, List.getD_eq_getElem?_getD, List.getElem?_map]
  by_cases h : i < s.params.n
  · simp [h]
  · simp [h]

@[simp] theorem State.paint_buf_length (s : State) (f : Nat → Color) : (s.paint f).buf.length = s.params.n := by
  simp

/-- Two buffers of length N with the same LEDs are the same buffer. -/
theorem buf_ext {s t : State} {n : Nat} (hs : s.buf.length = n) (ht : t.buf.length = n)
    (h : ∀ i < n, s.led i = t.led i) : s.buf = t.buf := by
  apply List.ext_getElem (hs.trans ht.symm)
  intro i h1 h2
  have := h i (hs ▸ h1)
  simpa [State.led, List.getD_eq_getElem?_getD, h1, h2] using this

/-- Nothing but the buffer is written by painting. -/
theorem State.paint_frame (s : State) (f : Nat → Color) : s.paint f = { s with buf := (s.paint f).buf } := rfl

theorem State.led_fillWhere (s : State) (member : Nat → Bool) (c : Color) (i : Nat) :
    (s.fillWhere member c).led i = if i < s.params.n then (if member i then c else s.led i) else 0 := by
  simp [State.fillWhere]

/-- `rotate(k)` writes nothing but the buffer. -/
theorem State.rotate_frame (s : State) (k : Nat) : s.rotate k = { s with buf := (s.rotate k).buf } := by
  induction k generalizing s with
  | zero => rfl
  | succ k ih => rw [State.rotate, ih]; rfl

@[simp] theorem State.rotate_params (s : State) (k : Nat) : (s.rotate k).params = s.params := by
  rw [State.rotate_frame]

theorem State.rotate_buf_length (s : State) (k : Nat) (h : s.buf.length = s.params.n) :
    (s.rotate k).buf.length = s.params.n := by
  induction k generalizing s with
  | zero => exact h
  | succ k ih => rw [State.rotate]; exact ih _ (by simp [State.rotate1])

theorem State.led_rotate1 (s : State) (i : Nat) (h : i < s.params.n) :
    s.rotate1.led i = s.led ((i + (s.params.n - 1)) % s.params.n) := by
  simp only [State.rotate1, State.led_paint, h, if_true]
  by_cases h0 : i = 0
  · subst h0
    rw [if_pos rfl, Nat.zero_add, Nat.mod_eq_of_lt (by omega)]
  · rw [if_neg h0, show i + (s.params.n - 1) = (i - 1) + s.params.n by omega, Nat.add_mod_right,
      Nat.mod_eq_of_lt (by omega)]

/-- After `rotate(k)`, BUF'[i] = BUF[(i - k) mod N] (43_color_primitives.md R256). -/
theorem State.led_rotate (s : State) (k i : Nat) (h : i < s.params.n) :
    (s.rotate k).led i = s.led ((i + (s.params.n - k % s.params.n)) % s.params.n) := by
  have hn : 0 < s.params.n := by omega
  induction k generalizing s with
  | zero => simp [State.rotate, Nat.mod_eq_of_lt h]
  | succ k ih =>
    have hlt := Nat.mod_lt (i + (s.params.n - k % s.params.n)) hn
    rw [State.rotate, ih s.rotate1 h hn]
    show s.rotate1.led ((i + (s.params.n - k % s.params.n)) % s.params.n) = _
    rw [State.led_rotate1 _ _ hlt]
    congr 1
    have hk := Nat.mod_lt k hn
    rw [Nat.mod_add_mod]
    by_cases hw : k % s.params.n + 1 = s.params.n
    · have : (k + 1) % s.params.n = 0 := by rw [← Nat.mod_add_mod, hw, Nat.mod_self]
      rw [this, show i + (s.params.n - k % s.params.n) + (s.params.n - 1) = i + (s.params.n - 0) by omega]
    · have : (k + 1) % s.params.n = k % s.params.n + 1 := by
        rw [← Nat.mod_add_mod, Nat.mod_eq_of_lt (by omega)]
      rw [this, show i + (s.params.n - k % s.params.n) + (s.params.n - 1)
        = i + (s.params.n - (k % s.params.n + 1)) + s.params.n by omega, Nat.add_mod_right]

/-! ### Channels -/

/-- The bits of a colour word, channel by channel (30_encoding.md R100). -/
theorem getLsbD_rgb (r g b : Byte) (i : Nat) : (rgb r g b).getLsbD i =
    if i < 8 then b.getLsbD i else if i - 8 < 8 then r.getLsbD (i - 8) else g.getLsbD (i - 8 - 8) := by
  refine (BitVec.getLsbD_append (x := g ++ r) (y := b)).trans ?_
  simp only [BitVec.getLsbD_append]

@[simp] theorem chanG_rgb (r g b : Byte) : chanG (rgb r g b) = g := by
  apply BitVec.eq_of_getLsbD_eq
  intro i hi
  simp only [chanG, BitVec.getLsbD_extractLsb', getLsbD_rgb]
  simp [hi, show 16 + i - 8 - 8 = i by omega, show ¬ 16 + i < 8 by omega, show ¬ 16 + i - 8 < 8 by omega]

@[simp] theorem chanR_rgb (r g b : Byte) : chanR (rgb r g b) = r := by
  apply BitVec.eq_of_getLsbD_eq
  intro i hi
  simp only [chanR, BitVec.getLsbD_extractLsb', getLsbD_rgb]
  simp [hi, show 8 + i - 8 = i by omega, show ¬ 8 + i < 8 by omega]

@[simp] theorem chanB_rgb (r g b : Byte) : chanB (rgb r g b) = b := by
  apply BitVec.eq_of_getLsbD_eq
  intro i hi
  simp [chanB, getLsbD_rgb, hi]

/-- A colour word is its three channels. -/
theorem rgb_channels (c : Color) : rgb (chanR c) (chanG c) (chanB c) = c := by
  apply BitVec.eq_of_getLsbD_eq
  intro i hi
  rw [getLsbD_rgb]
  simp only [chanR, chanG, chanB, BitVec.getLsbD_extractLsb']
  by_cases h1 : i < 8
  · simp [h1]
  · by_cases h2 : i - 8 < 8
    · simp [h1, h2, show 8 + (i - 8) = i by omega]
    · simp [h1, h2, show 16 + (i - 8 - 8) = i by omega]
      omega

/-! ### Halving -/

/-- `halve()` writes nothing but the buffer and NZCOUNT. -/
theorem State.halve_frame (s : State) :
    s.halve.1 = { s with buf := s.halve.1.buf, nzCount := s.halve.1.nzCount } := rfl

theorem State.led_halve (s : State) (i : Nat) :
    s.halve.1.led i = if i < s.params.n then halveColor (s.led i) else 0 :=
  State.led_paint s _ i

theorem State.halve_buf_length (s : State) : s.halve.1.buf.length = s.params.n := State.paint_buf_length s _

/-- The value `halve()` returns is a recount of the halved buffer (43_color_primitives.md R264). -/
theorem State.halve_count (s : State) : s.halve.2 = s.halve.1.litCount := rfl

theorem litChannels_le (c : Color) : litChannels c ≤ 3 := by
  unfold litChannels
  split <;> split <;> split <;> omega

/-- At most three channels per LED are lit (10_state.md R30). -/
theorem State.litCount_le (s : State) : s.litCount ≤ 3 * s.params.n := by
  have : ∀ l : List Nat, (l.map fun i => litChannels (s.led i)).sum ≤ 3 * l.length := by
    intro l
    induction l with
    | nil => simp
    | cons a l ih =>
      have := litChannels_le (s.led a)
      simp only [List.map_cons, List.sum_cons, List.length_cons]
      omega
  simpa [State.litCount] using this (List.range s.params.n)

/-! ### The commands' common shape -/

theorem unlessBusy_idle {i : Instr} {s t : State} (h : s.tx.busy = false) : unlessBusy i s t = .next t := by
  simp [unlessBusy, h]

theorem unlessBusy_busy {i : Instr} {s t : State} (h : s.tx.busy = true) :
    unlessBusy i s t = .next (s.raise .busy (encode i)) := by
  simp [unlessBusy, h]

/-! ### The cadence counter -/

/-- What `cadence(P)` can do (42_pattern_engine.md R206). -/
theorem State.cadence_cases (s : State) (p : Nat) :
    (p ≤ (s.gen.cnt + 1).toNat ∧ s.cadence p = (s.setCnt 0, true)) ∨
    ((s.gen.cnt + 1).toNat < p ∧ s.cadence p = (s.setCnt (s.gen.cnt + 1), false)) := by
  unfold State.cadence
  split
  · exact .inl ⟨‹_›, rfl⟩
  · exact .inr ⟨by omega, rfl⟩

/-! ### The transmitter -/

@[simp] theorem colorBits_length (c : Color) : (colorBits c).length = 24 := by simp [colorBits]

/-- A frame has exactly 24N bits (41_transmitter.md R173). -/
@[simp] theorem State.frameBits_length (s : State) : s.frameBits.length = 24 * s.params.n := by
  simp [State.frameBits, List.length_flatMap, Nat.mul_comm]

/-- A frame depends on nothing but N and the LEDs. -/
theorem State.frameBits_congr {s t : State} (hn : s.params.n = t.params.n) (hb : s.buf = t.buf) :
    s.frameBits = t.frameBits := by
  simp [State.frameBits, State.led, hn, hb]

end Sys2Proof.Machine
end

