-- ==== Sys2Proof/Laws/Bus.lean ====
section
/-!
SUPPORT. The address map is one-to-one on aligned addresses, masked writes stay within their bits, and what a bus access,
a TX turn and a run of steps leave (20_memory.md R73 to R78, 40_host_access.md R140 to R148, 41_transmitter.md R176,
R177).
-/

namespace Sys2Proof.Machine

/-- `aligned` is addr[1:0] = 0 (20_memory.md R73). -/
theorem aligned_iff (a : Addr) : aligned a = true ↔ a.toNat % 4 = 0 := by
  unfold aligned
  rw [decide_eq_true_iff, ← BitVec.toNat_inj]
  simp [BitVec.extractLsb'_toNat]

/-- The offset of a register in the map (20_memory.md R75); 0 for what the map reserves. -/
def offsetOf : Reg → Nat
  | .info => 0x000
  | .status => 0x004
  | .err => 0x008
  | .errInfo => 0x00C
  | .cmd => 0x010
  | .argColor => 0x014
  | .argMask => 0x018
  | .nzCount => 0x01C
  | .dbStatus => 0x020
  | .demoCtrl => 0x024
  | .fadeDelay => 0x028
  | .genState => 0x02C
  | .genRcolor => 0x030
  | .dbParam => 0x034
  | .demoParam => 0x038
  | .groupMask g => 0x040 + 4 * g
  | .palette k => 0x060 + 4 * k
  | .slotCfg k => 0x080 + 4 * k
  | .buf i => 0x100 + 4 * i
  | .reserved => 0

theorem offsetOf_regAt : ∀ n < 128,
    regAt (BitVec.ofNat 9 (4 * n)) = .reserved ∨ offsetOf (regAt (BitVec.ofNat 9 (4 * n))) = 4 * n := by decide

/-- Two aligned addresses of one register are the same address. -/
theorem regAt_inj {a b : Addr} (ha : a.toNat % 4 = 0) (hb : b.toNat % 4 = 0) (h : regAt a = regAt b)
    (hr : regAt a ≠ .reserved) : a = b := by
  have h1 := offsetOf_regAt (a.toNat / 4) (by have := a.isLt; omega)
  have h2 := offsetOf_regAt (b.toNat / 4) (by have := b.isLt; omega)
  rw [show 4 * (a.toNat / 4) = a.toNat by omega, BitVec.ofNat_toNat, BitVec.setWidth_eq] at h1
  rw [show 4 * (b.toNat / 4) = b.toNat by omega, BitVec.ofNat_toNat, BitVec.setWidth_eq] at h2
  rcases h1 with h1 | h1
  · exact absurd h1 hr
  rcases h2 with h2 | h2
  · exact absurd (h.trans h2) hr
  apply BitVec.eq_of_toNat_eq
  rw [← h1, ← h2, h]

/-- A masked write names no LED past the buffer (10_state.md R29, R37). -/
theorem lowBits_lt (n : Nat) (v : Word) (hn : n ≤ 32) : (lowBits n v).toNat < 2 ^ n := by
  have h1 : 0 < 2 ^ n := Nat.two_pow_pos n
  have h2 : 2 ^ n ≤ 2 ^ 32 := Nat.pow_le_pow_right (by norm_num) hn
  simp only [lowBits, BitVec.toNat_and, BitVec.toNat_ofNat]
  rw [Nat.mod_eq_of_lt (by omega)]
  have := @Nat.and_le_right v.toNat (2 ^ n - 1)
  omega

/-- A stored slot word has no reserved bit left (30_encoding.md R120). -/
theorem slotStorable_idem (v : Word) : slotStorable (slotStorable v) = slotStorable v := by
  simp [slotStorable, BitVec.and_assoc]

/-- The reset group masks name no LED past the buffer (10_state.md R37). -/
theorem resetGroupMask_lt : ∀ n ≤ 32, ∀ g < 3, (resetGroupMask n g).toNat < 2 ^ n := by decide

/-- What a turn of the TX engine can be (41_transmitter.md R176, R177). -/
theorem txTurn_cases {s t : State} (h : txTurn s = .next t) :
    (s.tx.busy = false ∧ t = s) ∨ (s.tx.busy = true ∧ s.tx.latch = true ∧ t = s.latchFrame) ∨
    (s.tx.busy = true ∧ s.tx.latch = false ∧ ∃ b, s.frameBits[s.tx.pos]? = some b ∧ t = s.emitBit b) := by
  unfold txTurn at h
  split at h
  · split at h
    · cases h
      exact .inr (.inl ⟨‹_›, ‹_›, rfl⟩)
    · split at h
      · cases h
        exact .inr (.inr ⟨‹_›, by simp_all, _, ‹_›, rfl⟩)
      · cases h
  · cases h
    exact .inl ⟨by simp_all, rfl⟩

end Sys2Proof.Machine

/-- One step more, after k. -/
theorem Sys2Proof.Laws.run_snoc (M : Host.Core) {k : Nat} {x y : M.State} (h : M.run k x = .next y) :
    M.run (k + 1) x = M.step y := by
  induction k generalizing x with
  | zero =>
    cases h
    simp only [Host.Core.run]
    cases M.step y <;> rfl
  | succ k ih =>
    rw [Host.Core.run] at h ⊢
    cases hx : M.step x with
    | next z => rw [hx] at h; exact ih h
    | fault r => rw [hx] at h; cases h
    | refused r => rw [hx] at h; cases h
end

