-- ==== Sys2Proof/Laws/Codec.lean ====
section
/-!
SUPPORT. The fields of an encoded word, and a word as its four fields (30_encoding.md R110). Round-trip proofs cite
these and never unfold a field.
-/

namespace Sys2Proof

/-- The bits of an encoded word, field by field. -/
theorem getLsbD_cmdWord (op : Byte) (a b i : Nat) : (cmdWord op a b).getLsbD i =
    if i < 8 then false else if i - 8 < 8 then (BitVec.ofNat 8 b).getLsbD (i - 8)
    else if i - 8 - 8 < 8 then (BitVec.ofNat 8 a).getLsbD (i - 8 - 8) else op.getLsbD (i - 8 - 8 - 8) := by
  refine (BitVec.getLsbD_append (x := op ++ BitVec.ofNat 8 a ++ BitVec.ofNat 8 b) (y := (0 : Byte))).trans ?_
  simp only [BitVec.getLsbD_append]
  simp

@[simp] theorem opField_cmdWord (op : Byte) (a b : Nat) : opField (cmdWord op a b) = op := by
  apply BitVec.eq_of_getLsbD_eq
  intro i hi
  simp only [opField, BitVec.getLsbD_extractLsb', getLsbD_cmdWord]
  simp [hi, show 24 + i - 8 - 8 - 8 = i by omega, show ¬ 24 + i < 8 by omega,
    show ¬ 24 + i - 8 < 8 by omega, show ¬ 24 + i - 8 - 8 < 8 by omega]

@[simp] theorem aField_cmdWord (op : Byte) (a b : Nat) : aField (cmdWord op a b) = BitVec.ofNat 8 a := by
  apply BitVec.eq_of_getLsbD_eq
  intro i hi
  simp only [aField, BitVec.getLsbD_extractLsb', getLsbD_cmdWord]
  simp [hi, show 16 + i - 8 - 8 = i by omega, show ¬ 16 + i < 8 by omega, show ¬ 16 + i - 8 < 8 by omega]

@[simp] theorem bField_cmdWord (op : Byte) (a b : Nat) : bField (cmdWord op a b) = BitVec.ofNat 8 b := by
  apply BitVec.eq_of_getLsbD_eq
  intro i hi
  simp only [bField, BitVec.getLsbD_extractLsb', getLsbD_cmdWord]
  simp [hi, show 8 + i - 8 = i by omega, show ¬ 8 + i < 8 by omega]

@[simp] theorem zField_cmdWord (op : Byte) (a b : Nat) : zField (cmdWord op a b) = 0 := by
  apply BitVec.eq_of_getLsbD_eq
  intro i hi
  simp [zField, getLsbD_cmdWord, hi]

/-- A word with Z = 0 is the word of its fields OP, A and B. -/
theorem cmdWord_fields (w : Word) (hz : zField w = 0) :
    cmdWord (opField w) (aField w).toNat (bField w).toNat = w := by
  apply BitVec.eq_of_getLsbD_eq
  intro i hi
  have hz' : ∀ j < 8, w.getLsbD j = false := by
    intro j hj
    have := congrArg (fun v => v.getLsbD j) hz
    simpa [zField, hj] using this
  rw [getLsbD_cmdWord]
  simp only [opField, aField, bField, BitVec.ofNat_toNat, BitVec.setWidth_eq, BitVec.getLsbD_extractLsb']
  by_cases h1 : i < 8
  · simp [h1, hz' i h1]
  · by_cases h2 : i - 8 < 8
    · simp [h1, h2, show 8 + (i - 8) = i by omega]
    · by_cases h3 : i - 8 - 8 < 8
      · simp [h1, h2, h3, show 16 + (i - 8 - 8) = i by omega]
      · simp [h1, h2, h3, show 24 + (i - 8 - 8 - 8) = i by omega]
        omega

theorem ofNat_toNat_fits {a : Nat} (h : fitsField a = true) : (BitVec.ofNat 8 a).toNat = a := by
  simp [fitsField] at h
  simp
  omega

theorem fitsField_toNat (b : Byte) : fitsField b.toNat = true := by
  simp [fitsField]
  omega

/-- A concatenation as a number: the left part counts in units of the right part's size (00_scope.md R11). -/
theorem toNat_append_sum {m n : Nat} (x : BitVec m) (y : BitVec n) : (x ++ y).toNat = y.toNat + 2 ^ n * x.toNat := by
  rw [BitVec.toNat_append, Nat.shiftLeft_eq, Nat.mul_comm, ← Nat.two_pow_add_eq_or_of_lt y.isLt, Nat.add_comm]

/-- A field of a word as a number (00_scope.md R11). -/
theorem toNat_field {n : Nat} (w : BitVec n) (lo len : Nat) :
    (w.extractLsb' lo len).toNat = w.toNat / 2 ^ lo % 2 ^ len := by
  rw [BitVec.extractLsb'_toNat, Nat.shiftRight_eq_div_pow]

/-- One bit of a word as a number (00_scope.md R11). -/
theorem getLsbD_eq_decide {n : Nat} (w : BitVec n) (i : Nat) : w.getLsbD i = decide (w.toNat / 2 ^ i % 2 = 1) := by
  rw [BitVec.getLsbD, Nat.testBit_eq_decide_div_mod_eq]

end Sys2Proof
end

