-- ==== Sys2Proof/Laws/Debounce.lean ====
section
/-!
SUPPORT. What one tick does: the debounce state machine at each count, the demo counter, and lists of ticks
(44_debounce_demo.md R292 to R302).
-/

namespace Sys2Proof.Machine

/-- The sample of a tick, with the synchroniser settled (44_debounce_demo.md R291). -/
theorem DbUnit.sample_not (d : DbUnit) (p : Bool) : d.sample (!p) = { d with sync1 := !p, sync2 := !p, btn := p } := by
  cases p <;> rfl

/-- S < M < L (00_scope.md R8). -/
theorem Params.ticks_ordered {pr : Params} (h : pr.shortTicks + 2 ≤ pr.longTicks) :
    pr.shortTicks < pr.midTicks ∧ pr.midTicks < pr.longTicks := by
  unfold Params.midTicks
  omega

/-- `db_fsm(p)` at each count, with the sample in BTN (44_debounce_demo.md R293 to R298). -/
theorem DbUnit.fsm_cases {pr : Params} {d : DbUnit} (hl : pr.shortTicks + 2 ≤ pr.longTicks)
    (hc : d.cnt.toNat ≤ pr.longTicks) :
    (d.cnt.toNat = 0 ∧ d.fsm pr = some (if d.btn = true ∧ d.pending = false then { d with cnt := 1 } else d)) ∨
    (d.cnt.toNat ≠ 0 ∧ d.cnt.toNat < pr.longTicks ∧ d.cnt.toNat ≠ pr.shortTicks ∧ d.cnt.toNat ≠ pr.midTicks ∧
      d.fsm pr = some d.count) ∨
    (d.cnt.toNat = pr.shortTicks ∧ d.fsm pr = some (if d.btn then { d with prov := true } else d).count) ∨
    (d.cnt.toNat = pr.midTicks ∧
      d.fsm pr = some (if d.prov = true ∧ d.btn = false then (d.emit .short).idle else d.count)) ∨
    (d.cnt.toNat = pr.longTicks ∧
      d.fsm pr = some (if d.btn then d.emit .long else if d.prov then d.emit .short else d).idle) := by
  obtain ⟨hm1, hm2⟩ := Params.ticks_ordered hl
  unfold DbUnit.fsm
  dsimp only
  by_cases h0 : d.cnt.toNat = 0
  · exact .inl ⟨h0, by rw [if_pos h0]⟩
  by_cases h1 : d.cnt.toNat = pr.shortTicks
  · exact .inr (.inr (.inl ⟨h1, by rw [if_neg h0, if_neg (by omega), if_pos h1]⟩))
  by_cases h2 : d.cnt.toNat = pr.midTicks
  · refine .inr (.inr (.inr (.inl ⟨h2, ?_⟩)))
    rw [if_neg h0, if_neg (by omega), if_neg h1, if_neg (by omega), if_pos h2]
  by_cases h3 : d.cnt.toNat = pr.longTicks
  · refine .inr (.inr (.inr (.inr ⟨h3, ?_⟩)))
    rw [if_neg h0, if_neg (by omega), if_neg h1, if_neg (by omega), if_neg h2, if_neg (by omega), if_pos h3]
  refine .inr (.inl ⟨h0, by omega, h1, h2, ?_⟩)
  rw [if_neg h0]
  split
  · rfl
  · split
    · rfl
    · rw [if_pos (by omega)]

/-- A tick is the state machine on the sample, then the demo counter (44_debounce_demo.md R292). -/
theorem tickStep_of_fsm {p : Bool} {s : State} {d : DbUnit}
    (h : ({ s.db with sync1 := !p, sync2 := !p, btn := p } : DbUnit).fsm s.params = some d) :
    tickStep p s = .next { s with
      db := { d with nextReq := d.nextReq || (s.demo.tick s.params.demoTicks).2 }
      demo := (s.demo.tick s.params.demoTicks).1 } := by
  unfold tickStep
  rw [DbUnit.sample_not, h]

/-- A tick that completes has run the state machine. -/
theorem fsm_of_tickStep {p : Bool} {s t : State} (h : tickStep p s = .next t) :
    ∃ d, ({ s.db with sync1 := !p, sync2 := !p, btn := p } : DbUnit).fsm s.params = some d ∧
      t = { s with
        db := { d with nextReq := d.nextReq || (s.demo.tick s.params.demoTicks).2 }
        demo := (s.demo.tick s.params.demoTicks).1 } := by
  unfold tickStep at h
  rw [DbUnit.sample_not] at h
  split at h
  · cases h
  · cases h
    exact ⟨_, ‹_›, rfl⟩

/-- Counting up to a bound of 8 bits does not wrap. -/
theorem cnt_succ {c : Byte} {bound : Nat} (h : c.toNat < bound) (hb : bound ≤ 255) :
    (c + 1).toNat = c.toNat + 1 := by
  rw [BitVec.toNat_add]
  simp
  omega

theorem ticks_cons {p : Bool} {ps : List Bool} {s t : State} (h : tickStep p s = .next t) :
    ticks (p :: ps) s = ticks ps t := by
  show (Result.state? (tickStep p s)).bind (ticks ps) = _
  rw [h]
  rfl

theorem ticks_append (ps qs : List Bool) (s : State) : ticks (ps ++ qs) s = (ticks ps s).bind (ticks qs) := by
  induction ps generalizing s with
  | nil => rfl
  | cons p ps ih =>
    show (Result.state? (tickStep p s)).bind (ticks (ps ++ qs)) =
      ((Result.state? (tickStep p s)).bind (ticks ps)).bind (ticks qs)
    cases Result.state? (tickStep p s) with
    | none => rfl
    | some t => exact ih t

end Sys2Proof.Machine
end

