-- ==== Sys2Proof/Laws/Pattern.lean ====
section
/-!
SUPPORT. What the pattern engine's shared parts do: the checks of STEP, the cadence, halving to darkness, and the reveal
step (42_pattern_engine.md R203 to R218). Proofs about a generator cite these and never unfold a part.
-/

namespace Sys2Proof.Machine

/-! ### Darkness -/

/-- A colour word is 0 when its three channels are (30_encoding.md R100). -/
theorem color_eq_zero {c : Color} (hg : chanG c = 0) (hr : chanR c = 0) (hb : chanB c = 0) : c = 0 := by
  rw [← rgb_channels c, hg, hr, hb]
  decide

/-- A colour word has no lit channel exactly when it is 0. -/
theorem litChannels_eq_zero {c : Color} : litChannels c = 0 ↔ c = 0 := by
  constructor
  · intro h
    unfold litChannels at h
    simp at h
    exact color_eq_zero h.1.1 h.1.2 h.2
  · rintro rfl
    decide

/-- No channel of the buffer is lit exactly when every LED is 0. -/
theorem State.litCount_eq_zero (s : State) : s.litCount = 0 ↔ s.Dark := by
  simp only [State.litCount, State.Dark, List.sum_eq_zero_iff, List.mem_map, List.mem_range]
  constructor
  · intro h i hi
    exact litChannels_eq_zero.1 (h _ ⟨i, hi, rfl⟩)
  · rintro h _ ⟨i, hi, rfl⟩
    exact litChannels_eq_zero.2 (h i hi)

/-- `halve()` returns 0 exactly when it leaves the buffer dark. -/
theorem State.halve_eq_zero (s : State) : s.halve.2 = 0 ↔ s.DarkAfterHalving := by
  rw [State.halve_count, State.litCount_eq_zero]
  show (∀ i < s.params.n, s.halve.1.led i = 0) ↔ _
  constructor <;> intro h i hi <;> have := h i hi <;> simpa [State.led_halve, hi] using this

/-- Halve-or-refill where the halving leaves the buffer dark (42_pattern_engine.md R209, R213, R214). -/
theorem State.halveOrRefill_dark {s : State} {refill : State → State} (h : s.DarkAfterHalving) :
    s.halveOrRefill refill = refill s.halve.1 := if_pos ((State.halve_eq_zero s).2 h)

/-- Halve-or-refill where a channel stays lit. -/
theorem State.halveOrRefill_lit {s : State} {refill : State → State} (h : ¬ s.DarkAfterHalving) :
    s.halveOrRefill refill = s.halve.1 := if_neg fun hz => h ((State.halve_eq_zero s).1 hz)

/-! ### STEP's checks -/

/-- STEP of a slot's generator is that generator's call, its status then recorded (42_pattern_engine.md R203). -/
theorem exec_step_kind {s : State} {k : Kind} (h : s.RunsKind k) :
    exec .step s = .next ((genStep s.cfg s s.pstat).1.recordStatus (genStep s.cfg s s.pstat).2) := by
  have hc : s.stepCheck = none := by simp [State.stepCheck, h.notDone, h.noFade, h.valid]
  refine (unlessBusy_idle h.idle).trans ?_
  simp only [hc, State.generate, h.noFade]
  rfl

/-- STEP of the fade is `fade_step`, its status then recorded (42_pattern_engine.md R203). -/
theorem exec_step_fade {s : State} (h : s.RunsFade) :
    exec .step s = .next ((fadeStep s s.pstat).1.recordStatus (fadeStep s s.pstat).2) := by
  have hc : s.stepCheck = none := by simpa [State.stepCheck, h.notDone, h.fade] using h.delay
  refine (unlessBusy_idle h.idle).trans ?_
  simp only [hc, State.generate, h.fade]
  rfl

/-- One command more, after k. -/
theorem execTimes_snoc {k : Nat} {i : Instr} {s t u : State} (h1 : execTimes i k s = some t)
    (h2 : exec i t = .next u) : execTimes i (k + 1) s = some u := by
  induction k generalizing s with
  | zero =>
    obtain rfl : s = t := Option.some.inj h1
    show (Result.state? (exec i s)).bind _ = _
    rw [h2]
    rfl
  | succ k ih =>
    change (Result.state? (exec i s)).bind (execTimes i k) = _ at h1
    show (Result.state? (exec i s)).bind (execTimes i (k + 1)) = _
    cases h : Result.state? (exec i s) with
    | none => rw [h] at h1; cases h1
    | some x => rw [h] at h1; exact ih h1

/-! ### The cadence (42_pattern_engine.md R206) -/

/-- The generator acts. -/
theorem State.onCadence_acts {s : State} {period : Nat} {act : State → State}
    (h : period ≤ (s.gen.cnt + 1).toNat) : s.onCadence period act = (act (s.setCnt 0), .refresh) := by
  simp only [State.onCadence, State.cadence, if_pos h]
  rfl

/-- The generator waits. -/
theorem State.onCadence_waits {s : State} {period : Nat} {act : State → State}
    (h : (s.gen.cnt + 1).toNat < period) :
    s.onCadence period act = (s.setCnt (s.gen.cnt + 1), .noChange) := by
  simp only [State.onCadence, State.cadence, if_neg (Nat.not_le.2 h)]
  rfl

/-! ### Filling a set over a plain background -/

/-- Black or any other background, then a set in one colour (42_pattern_engine.md R215 to R217). -/
theorem State.led_fillAll_fillWhere (s : State) (back c : Color) (member : Nat → Bool) (i : Nat)
    (h : i < s.params.n) : ((s.fillAll back).fillWhere member c).led i = if member i then c else back := by
  rw [State.led_fillWhere, if_pos (show i < (s.fillAll back).params.n from h)]
  simp [State.fillAll, h]

/-- Only the buffer, PSTAT and DIRTY are written. -/
theorem State.fillWhere_record (s : State) (back c : Color) (member : Nat → Bool) :
    ((s.fillAll back).fillWhere member c).recordStatus .refresh =
      { s with pstat := .refresh, dirty := true, buf := ((s.fillAll back).fillWhere member c).buf } := rfl

/-! ### The reveal step (42_pattern_engine.md R218) -/

/-- What MASK becomes. -/
theorem State.revealStep_mask (s : State) (seed : BitVec 3) (group : Nat → Nat → Bool) (col : Nat → Color) :
    (s.revealStep seed group col).gen.mask = if s.gen.mask = 0 then seed else s.gen.mask >>> 1 := rfl

/-- Only MASK and the buffer are written, and PSTAT and DIRTY by the STEP around it. -/
theorem State.revealStep_record (s : State) (seed : BitVec 3) (group : Nat → Nat → Bool) (col : Nat → Color) :
    (s.revealStep seed group col).recordStatus .refresh =
      { s with
        pstat := .refresh
        dirty := true
        buf := (s.revealStep seed group col).buf
        gen := { s.gen with mask := (s.revealStep seed group col).gen.mask } } := rfl

theorem State.led_revealGroup (s : State) (member : Nat → Bool) (on : Bool) (c : Color) (i : Nat)
    (h : i < s.params.n) :
    (s.revealGroup member on c).led i = if member i then (if on then c else 0) else s.led i := by
  rw [State.revealGroup, State.led_fillWhere, if_pos h]

/-- The highest-numbered group of an LED decides what it shows, and an LED in no group keeps its colour. -/
theorem State.led_revealStep (s : State) (seed : BitVec 3) (group : Nat → Nat → Bool) (col : Nat → Color) (i : Nat)
    (h : i < s.params.n) :
    let m := (s.revealStep seed group col).gen.mask
    (s.revealStep seed group col).led i =
      if group 2 i then (if m.getLsbD 2 then col 2 else 0)
      else if group 1 i then (if m.getLsbD 1 then col 1 else 0)
      else if group 0 i then (if m.getLsbD 0 then col 0 else 0)
      else s.led i := by
  intro m
  have hm : m = if s.gen.mask = 0 then seed else s.gen.mask >>> 1 := rfl
  rw [hm]
  unfold State.revealStep
  generalize (if s.gen.mask = 0 then seed else s.gen.mask >>> 1) = v
  dsimp only
  rw [State.led_revealGroup (State.revealGroup (State.revealGroup (s.setMask v) _ _ _) _ _ _) _ _ _ _ h,
    State.led_revealGroup (State.revealGroup (s.setMask v) _ _ _) _ _ _ _ h,
    State.led_revealGroup (s.setMask v) _ _ _ _ h]
  rfl

/-! ### What no generator writes -/

/-- A generator writes at most the buffer, GEN_STATE and GEN_RCOLOR, NZCOUNT and draws (42_pattern_engine.md R203). -/
def GenFrame (s t : State) : Prop := t = { s with buf := t.buf, gen := t.gen, nzCount := t.nzCount, rand := t.rand }

theorem GenFrame.trans {s t u : State} (h : GenFrame s t) (h' : GenFrame t u) : GenFrame s u := by
  unfold GenFrame at *
  rw [h', h]

theorem GenFrame.rotate (s : State) (k : Nat) : GenFrame s (s.rotate k) := by
  unfold GenFrame
  rw [State.rotate_frame]

theorem GenFrame.setCnt (s : State) (v : Byte) : GenFrame s (s.setCnt v) := rfl
theorem GenFrame.setMask (s : State) (v : BitVec 3) : GenFrame s (s.setMask v) := rfl
theorem GenFrame.halve (s : State) : GenFrame s s.halve.1 := rfl
theorem GenFrame.paint (s : State) (f : Nat → Color) : GenFrame s (s.paint f) := rfl
theorem GenFrame.randomFill (s : State) : GenFrame s s.randomFill := rfl
theorem GenFrame.flashRefill (s : State) (w : Word) : GenFrame s (s.flashRefill w) := rfl

theorem GenFrame.revealStep (s : State) (seed : BitVec 3) (group : Nat → Nat → Bool) (col : Nat → Color) :
    GenFrame s (s.revealStep seed group col) := rfl

theorem GenFrame.fill (s : State) (back c : Color) (member : Nat → Bool) :
    GenFrame s ((s.fillAll back).fillWhere member c) := rfl

theorem GenFrame.drawIfRandom (s : State) (w : Word) : GenFrame s (s.drawIfRandom w) := by
  unfold State.drawIfRandom
  split <;> rfl

theorem GenFrame.halveOrRefill {s : State} {refill : State → State} (h : ∀ t, GenFrame t (refill t)) :
    GenFrame s (s.halveOrRefill refill) := by
  by_cases hd : s.DarkAfterHalving
  · rw [State.halveOrRefill_dark hd]
    exact (GenFrame.halve s).trans (h _)
  · rw [State.halveOrRefill_lit hd]
    exact GenFrame.halve s

/-- A cadence step's frame, and its status. -/
theorem GenFrame.onCadence {s : State} {period : Nat} {act : State → State} (h : ∀ t, GenFrame t (act t)) :
    GenFrame s (s.onCadence period act).1 ∧
      ((s.onCadence period act).2 = .refresh ∨ (s.onCadence period act).2 = .noChange) := by
  rcases Nat.lt_or_ge (s.gen.cnt + 1).toNat period with hc | hc
  · rw [State.onCadence_waits hc]
    exact ⟨rfl, .inr rfl⟩
  · rw [State.onCadence_acts hc]
    exact ⟨(GenFrame.setCnt s 0).trans (h _), .inl rfl⟩

/-- Every generator's frame; its status is Refresh or NoChange but where the kind is reserved. -/
theorem genStep_frame (w : Word) (s : State) (prev : PStatus) :
    GenFrame s (genStep w s prev).1 ∧
      (slotKind w ≠ none → (genStep w s prev).2 = .refresh ∨ (genStep w s prev).2 = .noChange) := by
  have done : ∀ {r : State × PStatus}, GenFrame s r.1 ∧ (r.2 = .refresh ∨ r.2 = .noChange) →
      GenFrame s r.1 ∧ (slotKind w ≠ none → r.2 = .refresh ∨ r.2 = .noChange) := fun h => ⟨h.1, fun _ => h.2⟩
  unfold genStep
  split
  · apply done; unfold genSolid; split
    · refine ⟨?_, .inl rfl⟩
      dsimp only
      split
      · exact (GenFrame.setCnt s 0).trans (GenFrame.randomFill _)
      · exact (GenFrame.setCnt s 0).trans (GenFrame.paint _ _)
    · exact ⟨rfl, .inr rfl⟩
  · apply done; unfold genRainbow; split
    · exact ⟨rfl, .inl rfl⟩
    · exact ⟨rfl, .inr rfl⟩
  · apply done; unfold genBreathe; split
    · exact ⟨rfl, .inl rfl⟩
    · exact GenFrame.onCadence fun _ => GenFrame.halveOrRefill fun _ => rfl
  · apply done; unfold genWheel; split
    · exact ⟨rfl, .inl rfl⟩
    · exact GenFrame.onCadence fun t => GenFrame.rotate t 3
  · apply done; unfold genFlash; split
    · exact ⟨rfl, .inl rfl⟩
    · exact GenFrame.onCadence fun _ => GenFrame.halveOrRefill fun t => GenFrame.flashRefill t w
  · apply done; unfold genCrazy; split
    · exact ⟨rfl, .inl rfl⟩
    · exact GenFrame.onCadence fun _ => GenFrame.halveOrRefill fun t => GenFrame.randomFill t
  · apply done; unfold genWalk; split
    · exact ⟨((GenFrame.setCnt s 0).trans (GenFrame.drawIfRandom _ w)).trans (GenFrame.fill _ _ _ _), .inl rfl⟩
    · exact GenFrame.onCadence fun t => GenFrame.rotate t (walkStride w)
  · apply done; unfold genArc; split
    · exact ⟨((GenFrame.setCnt s 0).trans (GenFrame.setMask _ _)).trans (GenFrame.fill _ _ _ _), .inl rfl⟩
    · exact GenFrame.onCadence fun t => GenFrame.revealStep t _ _ _
  · apply done; unfold genRing; split
    · exact ⟨(((GenFrame.setCnt s 0).trans (GenFrame.drawIfRandom _ w)).trans (GenFrame.setMask _ _)).trans
        (GenFrame.fill _ _ _ _), .inl rfl⟩
    · exact GenFrame.onCadence fun t => GenFrame.revealStep t _ _ _
  · exact ⟨rfl, fun h => absurd ‹_› h⟩

/-- The frame of STEP's one generator call (42_pattern_engine.md R203). -/
theorem State.generate_frame (s : State) : GenFrame s s.generate.1 := by
  unfold State.generate
  split
  · unfold fadeStep
    split
    · rfl
    · split <;> rfl
  · exact (genStep_frame s.cfg s s.pstat).1

end Sys2Proof.Machine
end

