-- ==== Sys2Proof/Laws/PerInstr.lean ====
section
/-!
SUPPORT. Statements for all commands, one lemma per constructor. `RowMatch`: the word of a command matches the match and
mask values of its row of the opcode map (30_encoding.md R112, R113).
-/

namespace Sys2Proof.Laws.RowMatch

/-- The command's word matches its row (30_encoding.md R113). -/
def Statement (i : Instr) : Prop := encode i &&& (rowOf i).mask = (rowOf i).matchBits

theorem nop : Statement .nop := by unfold Statement; decide
theorem fillAll : Statement .fillAll := by unfold Statement; decide

/-- Bits of a word of known OP and Z, masked to those two fields. -/
theorem opAndZ (op : Byte) (a b : Nat) : cmdWord op a b &&& 0xFF0000FF = cmdWord op 0 0 := by
  apply BitVec.eq_of_getLsbD_eq
  intro j hj
  rw [BitVec.getLsbD_and, getLsbD_cmdWord, getLsbD_cmdWord]
  have : ∀ k < 32, (0xFF0000FF : Word).getLsbD k = (decide (k < 8) || decide (24 ≤ k)) := by decide
  rw [this j hj]
  by_cases h1 : j < 8
  · simp [h1]
  · by_cases h2 : j - 8 < 8
    · simp [h1, h2]
      omega
    · by_cases h3 : j - 8 - 8 < 8
      · simp [h1, h2, h3]
        omega
      · simp [h1, h2, h3]
        omega

/-- Bits of a word with B = 0, masked to all but A. -/
theorem allButA (op : Byte) (a : Nat) : cmdWord op a 0 &&& 0xFF00FFFF = cmdWord op 0 0 := by
  apply BitVec.eq_of_getLsbD_eq
  intro j hj
  rw [BitVec.getLsbD_and, getLsbD_cmdWord, getLsbD_cmdWord]
  have : ∀ k < 32, (0xFF00FFFF : Word).getLsbD k = (decide (k < 16) || decide (24 ≤ k)) := by decide
  rw [this j hj]
  by_cases h1 : j < 8
  · simp [h1]
  · by_cases h2 : j - 8 < 8
    · simp [h1, h2]
    · by_cases h3 : j - 8 - 8 < 8
      · simp [h1, h2, h3]
        omega
      · simp [h1, h2, h3]
        omega

theorem fillRange (lo hi : Nat) : Statement (.fillRange lo hi) := (opAndZ 0x02 lo hi).trans rfl
theorem fillMask : Statement .fillMask := by unfold Statement; decide
theorem rotate (k : Nat) : Statement (.rotate k) := (allButA 0x04 k).trans rfl
theorem halve : Statement .halve := by unfold Statement; decide
theorem rainbow : Statement .rainbow := by unfold Statement; decide
theorem randomFill : Statement .randomFill := by unfold Statement; decide
theorem select (slot : Nat) : Statement (.select slot) := (allButA 0x10 slot).trans rfl
theorem fadeStart : Statement .fadeStart := by unfold Statement; decide
theorem step : Statement .step := by unfold Statement; decide
theorem transmit : Statement .transmit := by unfold Statement; decide

end Sys2Proof.Laws.RowMatch
end

