-- ==== Sys2Proof/Tests/Slice0.lean ====
section
/-!
SUPPORT. Tests: the WellFormed smoke, decoding of words written out from 30_encoding.md R112, single steps whose
expected results are the vectors of 95_test_vectors.md (named V-...), and the witnesses of the obligations' hypotheses.
-/

namespace Sys2Proof.Tests
open Sys2Proof.Machine

/-! ### Well-formedness (30_encoding.md R126) -/

theorem test_wellFormed_refuses_lo : (Instr.fillRange 256 0).wellFormed = false := by decide
theorem test_wellFormed_refuses_hi : (Instr.fillRange 0 256).wellFormed = false := by decide
theorem test_wellFormed_refuses_rotate : (Instr.rotate 256).wellFormed = false := by decide
theorem test_wellFormed_refuses_slot : (Instr.select 256).wellFormed = false := by decide
theorem test_wellFormed_takes_largest : (Instr.fillRange 255 255).wellFormed = true := by decide

/-! ### Decoding, one word per row of 30_encoding.md R112 -/

theorem test_decode_nop : (decode 0b00000000_00000000_00000000_00000000).toOption = some .nop := by decide
theorem test_decode_fillAll : (decode 0b00000001_00000000_00000000_00000000).toOption = some .fillAll := by decide
theorem test_decode_fillRange :
    (decode 0b00000010_00000011_00000101_00000000).toOption = some (.fillRange 3 5) := by decide
theorem test_decode_fillMask : (decode 0b00000011_00000000_00000000_00000000).toOption = some .fillMask := by decide
theorem test_decode_rotate : (decode 0b00000100_11111111_00000000_00000000).toOption = some (.rotate 255) := by decide
theorem test_decode_halve : (decode 0b00000101_00000000_00000000_00000000).toOption = some .halve := by decide
theorem test_decode_rainbow : (decode 0b00000110_00000000_00000000_00000000).toOption = some .rainbow := by decide
theorem test_decode_randomFill :
    (decode 0b00000111_00000000_00000000_00000000).toOption = some .randomFill := by decide
theorem test_decode_select : (decode 0b00010000_00001011_00000000_00000000).toOption = some (.select 11) := by decide
theorem test_decode_fadeStart : (decode 0b00010001_00000000_00000000_00000000).toOption = some .fadeStart := by decide
theorem test_decode_step : (decode 0b00010010_00000000_00000000_00000000).toOption = some .step := by decide
theorem test_decode_transmit : (decode 0b00100000_00000000_00000000_00000000).toOption = some .transmit := by decide

/-- V-HA16, V-FL7, V-FL10, V-RO7, V-ER1, V-ER2: the illegal words of the vectors. -/
theorem test_decode_illegal :
    [0x00000001, 0x02030501, 0x01000100, 0x04010100, 0x08000000, 0xFF000000].all
      (fun w => (decode w).toOption = none) = true := by decide

theorem test_encode_select : encode (.select 12) = 0x100C0000 := by decide
theorem test_encode_fillRange : encode (.fillRange 5 3) = 0x02050300 := by decide

/-! ### Small states -/

/-- The default parameters with N LEDs and the nominal line timing at 20 MHz (V-S8). -/
def paramsOf (n : Nat) : Params :=
  { Params.defaults with n := n, line := nominalLine 20000000 1000, fClk := 20000000, cmdLat := 1 }

/-- The reset state of a block with N LEDs. -/
def base (n : Nat) : State := State.resetOf (paramsOf n)

/-- Four LEDs with the given colours. -/
def four (a b c d : Color) : State := { base 4 with buf := [a, b, c, d] }

/-- Four LEDs and a word in SLOT_CFG0. -/
def slotted (n : Nat) (w : Word) : State := { base n with slotCfg := (base n).slotCfg.set 0 w }

/-- The same with a frame in flight. -/
def sending (s : State) : State := { s with tx := { s.tx with busy := true } }

/-- A field of the state a step leaves. -/
def get {α : Type} (r : Result) (f : State → α) : Option α := (Result.state? r).map f

theorem test_nominal_line : nominalLine 20000000 0 = ⟨25, 16, 8, 0⟩ := by decide

/-! ### Registers (95_test_vectors.md 2.1) -/

/-- V-HA1, V-HA3, V-HA4 on the reset state itself. -/
theorem test_reset_reads :
    [0x000, 0x004, 0x028, 0x034, 0x038, 0x040, 0x044, 0x048, 0x148, 0x010].map State.reset.busRead =
      [0x80120C12, 0, 4, 0x0064370A, 0x000001F4, 0x00009249, 0x00012492, 0x00024924, 0, 0] := by decide
/-- V-HA2. -/
theorem test_info_four : (base 4).busRead 0x000 = 0x80120C04 := by decide
/-- V-HA5. -/
theorem test_write_argColor : get (hostWrite 0x014 0xFF123456 (base 18)) (·.busRead 0x014) = some 0x00123456 := by
  decide
/-- V-HA6. -/
theorem test_write_argMask : get (hostWrite 0x018 0xFFFFFFFF (base 18)) (·.busRead 0x018) = some 0x0003FFFF := by
  decide
/-- V-HA7. -/
theorem test_write_slot : get (hostWrite 0x08C 0xFFFFFFFF (base 18)) (·.busRead 0x08C) = some 0x0073FFFF := by decide
/-- V-HA8. -/
theorem test_write_absent_slot : get (hostWrite 0x0B0 0x30 (base 18)) (fun t => (t.busRead 0x0B0, t.err.cause)) =
    some (0, .none) := by decide
/-- V-HA10. -/
theorem test_write_buf : get (hostWrite 0x104 0x00AABBCC (base 18)) (fun t => (t.busRead 0x104, t.busRead 0x004)) =
    some (0x00AABBCC, 0x00000002) := by decide
/-- V-HA12. -/
theorem test_write_buf_past_end :
    get (hostWrite 0x148 0x1 (base 18)) (fun t => (t.busRead 0x008, t.busRead 0x00C, t.dirty)) =
      some (0x00000002, 0xFF000148, false) := by decide
/-- V-ER7: BUSY wins over RANGE. -/
theorem test_write_buf_busy :
    get (hostWrite 0x148 0 (sending (base 18))) (fun t => (t.busRead 0x008, t.busRead 0x00C)) =
      some (0x00000003, 0xFF000148) := by decide
/-- 20_memory.md R73. -/
theorem test_misaligned_refused : hostRead 0x006 (base 4) = .refused .misalignedAccess := by rfl

/-! ### Commands, at most two each -/

/-- V-HA15. -/
theorem test_nop : exec .nop (base 4) = .next (base 4) := rfl
/-- V-HA16. -/
theorem test_nop_field : get (execute 0x00000001 (base 4)) (fun t => (t.busRead 0x008, t.busRead 0x00C)) =
    some (0x00000001, 0x00000001) := by decide
/-- V-FL1. -/
theorem test_fillAll : get (exec .fillAll { base 4 with argColor := 0x102030 }) (fun t => (t.buf, t.statusWord)) =
    some ([0x102030, 0x102030, 0x102030, 0x102030], 2) := by decide
/-- V-FL2. -/
theorem test_fillRange : get (exec (.fillRange 3 5) { base 18 with argColor := 0x0000FF })
    (fun t => (t.buf, t.dirty)) =
    some (List.replicate 3 0 ++ List.replicate 3 0x0000FF ++ List.replicate 12 0, true) := by decide
/-- V-FL5, V-FL6. -/
theorem test_fillRange_rejected :
    (get (exec (.fillRange 5 3) (base 18)) (fun t => (t.busRead 0x008, t.busRead 0x00C, t.dirty)),
     get (exec (.fillRange 0 18) (base 18)) (fun t => (t.busRead 0x008, t.busRead 0x00C, t.dirty))) =
    (some (0x00000002, 0x02050300, false), some (0x00000002, 0x02001200, false)) := by decide
/-- V-FL8. -/
theorem test_fillMask : get (exec .fillMask { base 4 with argMask := 0x5, argColor := 0x800000 }) (·.buf) =
    some [0x800000, 0, 0x800000, 0] := by decide
/-- V-FL9. -/
theorem test_fillMask_empty : get (exec .fillMask (base 4)) (fun t => (t.buf, t.statusWord)) =
    some ([0, 0, 0, 0], 2) := by decide
/-- V-RO1, V-RO2, V-RO3, V-RO4. -/
theorem test_rotate : [1, 3, 4, 0].map (fun k => get (exec (.rotate k) (four 1 2 3 4)) (·.buf)) =
    [some [4, 1, 2, 3], some [2, 3, 4, 1], some [1, 2, 3, 4], some [1, 2, 3, 4]] := by decide
/-- V-HV1. -/
theorem test_halve : get (exec .halve (four 0x030201 0 0 0)) (fun t => (t.buf, t.nzCount, t.dirty)) =
    some ([0x010100, 0, 0, 0], 2, true) := by decide
/-- V-HV5. -/
theorem test_halve_count : get (exec .halve (four 0x800000 0x000001 0 0)) (fun t => (t.buf, t.nzCount)) =
    some ([0x400000, 0, 0, 0], 1) := by decide
/-- V-RB4: N = 9. -/
theorem test_rainbow_nine : get (exec .rainbow (base 9)) (·.buf) =
    some [0x008000, 0x2A5600, 0x552B00, 0x800000, 0x56002A, 0x2B0055, 0x000080, 0x002A56, 0x00552B] := by decide
/-- V-RB5: N = 20 wraps at N_TUNED. -/
theorem test_rainbow_wraps : get (exec .rainbow (base 20)) (fun t => [1, 17, 18, 19].map t.led) =
    some [0x156B00, 0x006A16, 0x008000, 0x156B00] := by decide
/-- V-RF1. -/
theorem test_randomFill : get (exec .randomFill
    { base 4 with rand := ⟨[1, 2, 3, 4, 5, 6, 7, 8, 9, 10, 11, 12], 0⟩ }) (fun t => (t.buf, t.rand)) =
    some ([0x010203, 0x040506, 0x070809, 0x0A0B0C], ⟨[], 12⟩) := by decide
/-- V-PG3, V-PG4. -/
theorem test_select : (get (exec (.select 11) (base 18)) (·.statusWord),
    get (exec (.select 12) (base 18)) (fun t => (t.err.cause, t.err.info, t.patIdx))) =
    (some 0x00000B00, some (.range, 0x100C0000, 0)) := by decide
/-- 42_pattern_engine.md R201's example. -/
theorem test_fadeStart : get (exec .fadeStart { base 4 with pstat := .refresh }) (·.statusWord) =
    some 0x00000010 := by decide
/-- V-TX2. -/
theorem test_transmit : get (exec .transmit { four 0x8001FF 0 0 0 with dirty := true }) (·.statusWord) =
    some 0x00000001 := by decide
/-- V-TX4. -/
theorem test_transmit_busy : get (exec .transmit (sending (base 4))) (fun t => (t.busRead 0x008, t.err.info)) =
    some (0x00000003, 0x20000000) := by decide

/-! ### STEP and the generators -/

/-- V-PG1. -/
theorem test_step_solid : get (exec .step (base 4)) (fun t => (t.buf, t.statusWord)) =
    some ([0x808080, 0x808080, 0x808080, 0x808080], 0x00000006) := by decide
/-- V-PG2. -/
theorem test_step_solid_again : get (exec .step { base 4 with pstat := .refresh, dirty := true }) (·.statusWord) =
    some 0x0000000A := by decide
/-- V-PG5. -/
theorem test_step_reserved_kind : get (exec .step (slotted 4 0x00000009))
    (fun t => (t.busRead 0x008, t.busRead 0x00C, t.pstat)) = some (0x00000005, 0x12000000, .new) := by decide
/-- V-PG6, V-PG13. -/
theorem test_step_cfg : (get (exec .step (slotted 4 0x00000002)) (·.err.cause),
    get (exec .step (slotted 6 0x00000107)) (·.err.cause)) = (some .cfg, some .cfg) := by decide
/-- V-PG7, STEP 9: the halving reaches darkness and the rainbow is redrawn. -/
theorem test_step_breathe : get (exec .step
    { slotted 4 0x00000102 with pstat := .refresh, buf := [0x000100, 0x010000, 0x000001, 0] })
    (fun t => (t.buf, t.nzCount, t.pstat)) =
    some ([0x008000, 0x800000, 0x000080, 0], 0, .refresh) := by decide
/-- V-PG8, STEP 2. -/
theorem test_step_wheel : get (exec .step
    { slotted 4 0x00000103 with pstat := .refresh, buf := [0x008000, 0x800000, 0x000080, 0] })
    (·.buf) = some [0x800000, 0x000080, 0, 0x008000] := by decide
/-- V-PG16, STEP 9. -/
theorem test_step_flash : get (exec .step
    { slotted 4 0x00000104 with pstat := .refresh, buf := [0x000100, 0x010000, 0x000100, 0x010000] })
    (fun t => (t.buf, t.gen.word)) =
    some ([0x800000, 0x008000, 0x800000, 0x008000], 0x00001000) := by decide
/-- V-PG17. -/
theorem test_step_flash_new : get (exec .step (slotted 4 0x00010104)) (·.buf) =
    some [0x008000, 0x800000, 0x000080, 0x008000] := by decide
/-- V-PG18, STEP 3. -/
theorem test_step_crazy : get (exec .step
    { slotted 4 0x00000205 with pstat := .noChange, gen := ⟨1, 0, 0, 0, 0⟩,
                                buf := [0x010203, 0x040506, 0x070809, 0x0A0B0C] })
    (fun t => (t.buf, t.nzCount, t.pstat)) =
    some ([0x000101, 0x020203, 0x030404, 0x050506], 11, .refresh) := by decide
/-- V-PG20, STEP 1. -/
theorem test_step_walk : get (exec .step { base 18 with patIdx := 9 })
    (fun t => (List.range 18).filter fun i => t.led i = 0x008000) = some [0, 1, 9, 10] := by decide
/-- V-PG21. -/
theorem test_step_walk_odd : get (exec .step (slotted 5 0x00000426)) (·.buf) =
    some [0x000080, 0, 0x000080, 0, 0] := by decide
/-- V-PG10, STEP 1. -/
theorem test_step_arc_new : get (exec .step (slotted 6 0x00400107)) (fun t => (t.gen.mask, t.buf)) =
    some (4, [0, 0, 0, 0, 0x000080, 0x000080]) := by decide
/-- V-PG11, STEP 5. -/
theorem test_step_arc_reseeds : get (exec .step { slotted 6 0x00500107 with pstat := .refresh })
    (fun t => (t.gen.mask, t.buf)) =
    some (5, [0x008000, 0x008000, 0, 0, 0x000080, 0x000080]) := by decide
/-- V-PG14, STEP 2. -/
theorem test_step_ring : get (exec .step
    { slotted 6 0x00400128 with pstat := .refresh, gen := ⟨0, 4, 0, 0, 0⟩, buf := [0, 0, 0x80, 0, 0, 0x80] })
    (fun t => (t.gen.mask, t.buf)) = some (2, [0, 0x000080, 0, 0, 0x000080, 0]) := by decide
/-- V-PG15. -/
theorem test_step_ring_random : get (exec .step
    { base 18 with patIdx := 11, rand := ⟨[0x11, 0x22, 0x33, 0x44], 0⟩ })
    (fun t => (t.gen.rcolor, t.rand, (List.range 18).filter fun i => t.led i = 0x112233)) =
    some (0x112233, ⟨[0x44], 3⟩, [2, 5, 8, 11, 14, 17]) := by decide
/-- V-PG23. -/
theorem test_step_period_lowered : get (exec .step
    { slotted 4 0x00000203 with pstat := .noChange, gen := ⟨3, 0, 0, 0, 0⟩, buf := [1, 2, 3, 4] })
    (fun t => (t.buf, t.pstat)) = some ([2, 3, 4, 1], .refresh) := by decide
/-- V-FD6. -/
theorem test_step_fadeDone : get (exec .step
    { four 0x010101 0x010101 0x010101 0x010101 with fadeActive := true }) (fun t => (t.buf, t.statusWord)) =
    some ([0, 0, 0, 0], 0x0000001C) := by decide
/-- V-FD1, STEPs 2 and 5. -/
theorem test_step_fade_counts :
    (get (exec .step { four 4 4 4 4 with fadeActive := true, pstat := .refresh }) (fun t => (t.buf, t.pstat)),
     get (exec .step { four 4 4 4 4 with fadeActive := true, pstat := .noChange, gen := ⟨0, 0, 0, 3, 0⟩ })
       (fun t => (t.buf, t.pstat))) = (some ([4, 4, 4, 4], .noChange), some ([2, 2, 2, 2], .refresh)) := by decide
/-- V-FD8, V-FD9. -/
theorem test_step_fade_checks :
    (get (exec .step { base 4 with fadeActive := true, fadeDelay := 0 }) (·.err.cause),
     get (exec .step { base 4 with fadeActive := true, fadeDelay := 0, pstat := .fadeDone }) (·.err.cause)) =
    (some .cfg, some .state) := by decide
/-- V-ER6: BUSY wins over STATE. -/
theorem test_step_busy : get (exec .step (sending { base 4 with pstat := .fadeDone })) (·.err.cause) =
    some .busy := by decide

/-! ### Errors -/

/-- V-ER3. -/
theorem test_second_error : get (exec (.select 12) ((base 18).raise .illegal 0x08000000))
    (fun t => (t.busRead 0x008, t.busRead 0x00C)) = some (0x00000101, 0x08000000) := by decide
/-- V-ER4. -/
theorem test_clear_error : get (hostWrite 0x008 0 ((base 18).raise .illegal 0x08000000))
    (fun t => (t.busRead 0x008, t.busRead 0x00C)) = some (0, 0) := by decide
/-- V-ER5: ILLEGAL wins over BUSY. -/
theorem test_illegal_first : get (execute 0x12000001 (sending (base 4))) (·.err.word) = some 0x00000001 := by decide

/-! ### The TX engine -/

/-- 41_transmitter.md R183. -/
theorem test_frame_bits : (four 0x8001FF 0 0 0).frameBits.take 24 =
    [true, false, false, false, false, false, false, false,
     false, false, false, false, false, false, false, true,
     true, true, true, true, true, true, true, true] := by decide
/-- V-TX9: the first slot is long-high; V-TX3: the bit count. -/
theorem test_emit : get (txTurn (sending (four 0x8001FF 0 0 0))) (fun t => (t.tx.pos, t.tx.bits, t.tx.dout)) =
    some (1, [true], [⟨true, 16⟩, ⟨false, 9⟩]) := by decide
/-- 41_transmitter.md R177. -/
theorem test_latch : get (txTurn { base 4 with tx := ⟨true, 96, true, [true, false], [], []⟩ })
    (fun t => (t.tx.busy, t.tx.pos, t.tx.latch, t.tx.bits, t.tx.frames)) =
    some (false, 0, false, [], [[true, false]]) := by decide

/-! ### Debounce and demo -/

/-- A debounce unit at a count, with PROV and PENDING. -/
def counting (c : Byte) (prov pending : Bool) : State :=
  { base 4 with db := { (base 4).db with cnt := c, prov := prov, pending := pending } }

/-- V-DB2, tick 11. -/
theorem test_tick_short_point : get (tickStep true (counting 10 false false)) (·.db.word) = some 0x00000B30 := by
  decide
/-- V-DB2, tick 56. -/
theorem test_tick_shortPress : get (tickStep false (counting 55 true false)) (·.db.word) = some 0x00000005 := by
  decide
/-- V-DB1, ticks 56 and 101. -/
theorem test_tick_no_event : (get (tickStep false (counting 55 false false)) (·.db.cnt),
    get (tickStep false (counting 100 false false)) (·.db.word)) = (some 56, some 0) := by decide
/-- V-DB3 and V-DB4, tick 101. -/
theorem test_tick_long_point : (get (tickStep true (counting 100 true false)) (·.db.word),
    get (tickStep false (counting 100 true false)) (·.db.word)) = (some 0x00000016, some 0x00000005) := by decide
/-- V-DB7, V-DB8. -/
theorem test_tick_pending : (get (tickStep true (counting 0 false true)) (·.db.cnt),
    get (tickStep true (counting 0 false false)) (·.db.word)) = (some 0, some 0x00000110) := by decide
/-- V-DM2. -/
theorem test_tick_demo : get (tickStep false { base 4 with demo := ⟨true, 499⟩ })
    (fun t => (t.demo.word, t.db.word)) = some (0x00000001, 0x00000008) := by decide
/-- V-DM4, V-DM5. -/
theorem test_demo_write : (get (hostWrite 0x024 1 { base 4 with demo := ⟨true, 300⟩ }) (·.demo),
    get (hostWrite 0x024 0 { base 4 with demo := ⟨true, 300⟩ }) (·.demo)) =
    (some ⟨true, 0⟩, some ⟨false, 0⟩) := by decide
/-- V-AK1, V-AK2. -/
theorem test_ack : [0x8, 0xC].map (fun v => get (hostWrite 0x020 v
    { base 4 with db := { (base 4).db with event := .short, pending := true, nextReq := true } }) (·.db.word)) =
    [some 0x00000005, some 0] := by decide

/-! ### The host's two functions -/

theorem test_decodeTableWord : decodeTableWord 32 0x02030500 = some (.fillRange 3 5) := by decide
theorem test_withFetchWord :
    get (step (State.reset.withFetchWord 32 0x100B0000)) (·.patIdx) = some 11 := by decide
/-- 70_reset_and_hazards.md R372: nothing runs until the host accesses the block. -/
theorem test_reset_idles : step State.reset = .next State.reset := rfl

/-! ### Witnesses: states and operands that meet the hypotheses of the obligations, clause by clause

Each is named after its obligation; a list or a conjunction holds one value per clause, at the ends of the clause's
range. -/

theorem witness_DecodeInvertsEncode : (Instr.rotate 255).wellFormed = true ∧ (Instr.rotate 0).wellFormed = true ∧
    decode 0x04FF0000 = .ok (.rotate 255) := ⟨rfl, rfl, rfl⟩
theorem witness_DecodeFollowsTheMap : decode 0x02FFFF00 = .ok (.fillRange 255 255) ∧
    ∀ r ∈ opcodeRows, (0x02030501 : Word) &&& r.mask ≠ r.matchBits := ⟨rfl, by decide⟩
theorem witness_StepRunsDecodedCommand :
    (State.reset.withFetchWord 32 0x100B0000).inputs = [.write 0x010 0x100B0000] ∧
      decode 0x100B0000 = .ok (.select 11) := ⟨by decide, rfl⟩
theorem witness_NopChangesNothing : opField 0x00000001 = 0x00 ∧ (0x00000001 : Word) ≠ 0 := by decide
/-- An idle block: FILL_ALL, FILL_MASK, HALVE, RANDOM_FILL, FADE_START and TRANSMIT. -/
theorem witness_idle : (base 4).tx.busy = false ∧ (base 32).tx.busy = false ∧ (base 32).params.n ≤ 32 := by decide
/-- A block with a frame in flight: TransmitResult, BusyRejectsCommands. -/
theorem witness_busy : (sending (base 4)).tx.busy = true ∧ Instr.halve ≠ .nop := by decide
theorem witness_FillRangeResult :
    (0 ≤ 3 ∧ 3 < (base 4).params.n) ∧ (3 ≤ 3 ∧ 3 < (base 4).params.n) ∧ 2 < 3 ∧ (base 4).params.n ≤ 4 := by decide
/-- RotateResult and RotationLaws. -/
theorem witness_RotateResult : 0 < (base 4).params.n ∧ (four 1 2 3 4).buf.length = (base 4).params.n := by decide
theorem witness_HalvingLaws : 0 < (base 4).params.n ∧ chanG ((four 0x800000 0 0 0).led 0) ≠ 0 ∧
    chanB ((four 0 0 0 1).led 3) ≠ 0 := by decide
/-- RainbowResult: N = 4 has L = 1 and a black LED 3, N = 32 wraps at N_TUNED; the positions at the sectors' ends. -/
theorem witness_RainbowResult : (base 4).params.Ok ∧ (base 32).params.Ok ∧
    3 * (min (base 4).params.n (base 4).params.nTuned / 3) ≤ 3 ∧
    min (base 32).params.n (base 32).params.nTuned / 3 = 6 ∧
    [5, 6, 11, 12, 17, 31].map (· % min (base 32).params.n (base 32).params.nTuned) = [5, 6, 11, 12, 17, 13] := by
  decide
theorem witness_SelectResult :
    (base 4).params.nSlots ≤ 32 ∧ 11 < (base 4).params.nSlots ∧ (base 4).params.nSlots ≤ 12 := by decide

/-- Slot 0 holds `w`, the last STEP answered `p`, and CNT is `c`. -/
def running (w : Word) (p : PStatus) (c : Byte) (a : Color) : State :=
  { slotted 4 w with pstat := p, gen := ⟨c, 0, 0, 0, 0⟩, buf := [a, 0, 0, 0] }

/-- A fade with DELAY = 4. -/
def fading (p : PStatus) (c : Byte) (a : Color) : State :=
  { four a 0 0 0 with fadeActive := true, pstat := p, gen := ⟨0, 0, 0, c, 0⟩ }

theorem witness_StepCompletes : (base 4).pstat ≠ .fadeDone ∧ (base 4).fadeActive = false ∧
    slotValid (base 4).cfg = true ∧ (fading .new 0 4).fadeActive = true ∧ (fading .new 0 4).fadeDelay ≠ 0 := by decide
/-- StepRejected: FadeDone, and a fade with DELAY = 0. -/
theorem witness_StepRejected : ({ base 4 with pstat := .fadeDone } : State).tx.busy = false ∧
    ({ base 4 with fadeActive := true, fadeDelay := 0 } : State).pstat ≠ .fadeDone ∧
    (slotted 4 9).fadeActive = false ∧ (slotted 4 9).pstat ≠ .fadeDone ∧ (slotted 4 9).cfg = 9 ∧
    (slotted 4 9).patIdx.toNat < (slotted 4 9).slotCfg.length := by decide
/-- 30_encoding.md R123: a reserved KIND, COLOR = 8, 14 or 15, PERIOD = 0 and SEED = 0 break a row. -/
theorem test_slot_words_invalid : ([0x00000009, 0x0000000F, 0x00000080, 0x000000E0, 0x000001F4, 0x00000002, 0x00000003,
    0x00000074, 0x00000005, 0x00000076, 0x000001E6, 0x00700077, 0x00000177, 0x007001F7, 0x007000F8, 0x000001F8] :
    List Word).any slotValid = false := by decide
/-- 30_encoding.md R123: the words beside them keep their rows. -/
theorem test_slot_words_valid : ([0x00000070, 0x000000F0, 0x000000E1, 0x00000102, 0x0000FFE3, 0x00000174, 0x00000105,
    0x00000176, 0x000001F6, 0x00100177, 0x007001F8] : List Word).all slotValid = true := by decide
/-- RandomFillResult: the last placed byte. -/
theorem witness_RandomFillResult : 1 < (RandPort.mk [7, 8] 0).placed.length ∧ (RandPort.mk [7, 8] 0).placed[1] = 8 := by
  decide
/-- CadenceWaits: PERIOD = 255, one short of it. -/
theorem witness_CadenceWaits : (running 0x0000FF02 .noChange 253 0).RunsKind .breathe ∧
    ((running 0x0000FF02 .noChange 253 0).gen.cnt + 1).toNat < slotPeriod (running 0x0000FF02 .noChange 253 0).cfg := by
  refine ⟨?_, by decide⟩
  constructor <;> decide
/-- SolidStep: COLOR = 7 and COLOR = 15. -/
theorem witness_SolidStep : (running 0x00000070 .new 0 0).RunsKind .solid ∧
    slotColor (running 0x00000070 .new 0 0).cfg ≤ 7 ∧ (running 0x000000F0 .new 0 0).RunsKind .solid ∧
    slotColor (running 0x000000F0 .new 0 0).cfg = 15 ∧ (running 0x000000F0 .refresh 0 0).RunsKind .solid := by
  refine ⟨?_, by decide, ?_, by decide, ?_⟩ <;> constructor <;> decide
theorem witness_RainbowStep : (running 1 .new 0 0).RunsKind .rainbow ∧ (running 1 .refresh 0 0).RunsKind .rainbow := by
  constructor <;> constructor <;> decide
/-- The cadence action: a channel of 1 goes dark when it is halved, a channel of 2 does not. -/
theorem witness_halving : (running 0x00000102 .refresh 0 1).DarkAfterHalving ∧
    ¬ (running 0x00000102 .refresh 0 2).DarkAfterHalving ∧
    slotPeriod (running 0x00000102 .refresh 0 1).cfg ≤ ((running 0x00000102 .refresh 0 1).gen.cnt + 1).toNat := by
  unfold State.DarkAfterHalving
  decide
theorem witness_BreatheStep : (running 0x00000102 .new 0 0).RunsKind .breathe ∧
    (running 0x00000102 .refresh 0 1).RunsKind .breathe ∧ (running 0x00000102 .refresh 0 2).RunsKind .breathe := by
  refine ⟨?_, ?_, ?_⟩ <;> constructor <;> decide
theorem witness_WheelStep : (running 0x00000103 .new 0 0).RunsKind .wheel ∧
    (running 0x00000203 .noChange 1 0).RunsKind .wheel ∧
    slotPeriod (running 0x00000203 .noChange 1 0).cfg ≤ ((running 0x00000203 .noChange 1 0).gen.cnt + 1).toNat := by
  refine ⟨?_, ?_, by decide⟩ <;> constructor <;> decide
/-- FlashStep: two colours and three, New and the action, dark and lit. -/
theorem witness_FlashStep : (running 0x00000104 .new 0 0).RunsKind .flash ∧
    (running 0x00010104 .refresh 0 1).RunsKind .flash ∧ (running 0x00010104 .refresh 0 2).RunsKind .flash ∧
    (running 0x00010104 .refresh 0 1).DarkAfterHalving ∧ ¬ (running 0x00010104 .refresh 0 2).DarkAfterHalving ∧
    slotPeriod (running 0x00010104 .refresh 0 1).cfg ≤ ((running 0x00010104 .refresh 0 1).gen.cnt + 1).toNat := by
  refine ⟨?_, ?_, ?_, by unfold State.DarkAfterHalving; decide, by unfold State.DarkAfterHalving; decide, by decide⟩ <;>
    constructor <;> decide
theorem witness_CrazyStep : (running 0x00000105 .new 0 0).RunsKind .crazy ∧
    (running 0x00000105 .refresh 0 1).RunsKind .crazy ∧ (running 0x00000105 .refresh 0 2).RunsKind .crazy ∧
    (running 0x00000105 .refresh 0 1).DarkAfterHalving ∧ ¬ (running 0x00000105 .refresh 0 2).DarkAfterHalving ∧
    slotPeriod (running 0x00000105 .refresh 0 1).cfg ≤ ((running 0x00000105 .refresh 0 1).gen.cnt + 1).toNat := by
  refine ⟨?_, ?_, ?_, by unfold State.DarkAfterHalving; decide, by unfold State.DarkAfterHalving; decide, by decide⟩ <;>
    constructor <;> decide
theorem witness_WalkStep : (running 0x00030176 .new 0 0).RunsKind .walk ∧
    slotColor (running 0x00030176 .new 0 0).cfg ≤ 7 ∧ (running 0x000301F6 .new 0 0).RunsKind .walk ∧
    slotColor (running 0x000301F6 .new 0 0).cfg = 15 ∧ (running 0x00030176 .refresh 0 0).RunsKind .walk ∧
    slotPeriod (running 0x00030176 .refresh 0 0).cfg ≤ ((running 0x00030176 .refresh 0 0).gen.cnt + 1).toNat := by
  refine ⟨?_, by decide, ?_, by decide, ?_, by decide⟩ <;> constructor <;> decide
/-- ArcStep: the action finds MASK zero, and not zero. -/
theorem witness_ArcStep : (running 0x00700177 .new 0 0).RunsKind .arc ∧
    (running 0x00700177 .refresh 0 0).RunsKind .arc ∧ (running 0x00700177 .refresh 0 0).gen.mask = 0 ∧
    ((running 0x00700177 .refresh 0 0).setMask 7).RunsKind .arc ∧
    slotPeriod (running 0x00700177 .refresh 0 0).cfg ≤ ((running 0x00700177 .refresh 0 0).gen.cnt + 1).toNat := by
  refine ⟨?_, ?_, by decide, ?_, by decide⟩ <;> constructor <;> decide
theorem witness_RingStep : (running 0x00400178 .new 0 0).RunsKind .ring ∧
    slotColor (running 0x00400178 .new 0 0).cfg ≤ 7 ∧ (running 0x004001F8 .new 0 0).RunsKind .ring ∧
    slotColor (running 0x004001F8 .new 0 0).cfg = 15 ∧ (running 0x00400178 .refresh 0 0).RunsKind .ring ∧
    ((running 0x004001F8 .refresh 0 0).setMask 4).RunsKind .ring ∧
    slotPeriod (running 0x00400178 .refresh 0 0).cfg ≤ ((running 0x00400178 .refresh 0 0).gen.cnt + 1).toNat := by
  refine ⟨?_, by decide, ?_, by decide, ?_, ?_, by decide⟩ <;> constructor <;> decide
theorem witness_RevealMaskCycle : (4 : BitVec 3) ≠ 0 ∧ ((base 4).setMask 4).gen.mask = 4 ∧
    ((base 4).setMask 1).gen.mask = 1 := by decide
/-- FadeStepResult: New, FADE_CNT one short of DELAY, and counting; dark and lit after the halving. -/
theorem witness_FadeStepResult : (fading .new 0 1).RunsFade ∧ (fading .noChange 3 2).RunsFade ∧
    (fading .noChange 2 2).RunsFade ∧ (fading .new 0 1).DarkAfterHalving ∧ ¬ (fading .noChange 3 2).DarkAfterHalving ∧
    (fading .noChange 3 2).fadeDelay.toNat ≤ ((fading .noChange 3 2).gen.fadeCnt + 1).toNat ∧
    ((fading .noChange 2 2).gen.fadeCnt + 1).toNat < (fading .noChange 2 2).fadeDelay.toNat := by
  refine ⟨?_, ?_, ?_, by unfold State.DarkAfterHalving; decide, by unfold State.DarkAfterHalving; decide, by decide,
    by decide⟩ <;> constructor <;> decide
/-- FadeTakesItsSteps: a largest channel of 4 with DELAY = 4 takes 9 STEPs, V-FD1. -/
theorem witness_FadeTakesItsSteps : (fading .new 0 4).RunsFade ∧ (fading .new 0 4).brightest = 4 ∧
    Nat.log2 4 = 2 ∧ 1 + 2 * (fading .new 0 4).fadeDelay.toNat = 9 := by
  refine ⟨?_, by decide, by decide, by decide⟩
  constructor <;> decide
theorem witness_ErrorRecordKeepsTheFirst : (base 4).err.cause = .none ∧
    ((base 4).raise .range 5).err.cause ≠ .none := by decide
/-- ReadsHaveNoSideEffect: a read of the last offset, the parameters' constraint, the ends of the reserved offsets. -/
theorem witness_ReadsHaveNoSideEffect : (base 32).params.Ok ∧
    (∀ a ∈ ([0x03C, 0x04C, 0x05C, 0x180] : List Addr), a.toNat % 4 = 0) ∧
    ({ base 4 with inputs := [.read 0x1FC] } : State).inputs = [.read 0x1FC] ∧ (0x1FC : Addr).toNat % 4 = 0 := by decide
theorem witness_MisalignedAccessRefused : (0x001 : Addr).toNat % 4 ≠ 0 ∧ (0x1FF : Addr).toNat % 4 ≠ 0 := by decide
/-- WrittenRegistersReadBack: the last palette entry, the first and last slot and the first and last LED of the block. -/
theorem witness_WrittenRegistersReadBack : (base 4).slotCfg.length = (base 4).params.nSlots ∧
    (base 4).buf.length = (base 4).params.n ∧ (base 4).tx.busy = false ∧
    (∃ i < (base 4).params.n, i < 32 ∧ (0x100 : Addr) = BitVec.ofNat 9 (0x100 + 4 * i)) ∧
    (∃ i < (base 4).params.n, i < 32 ∧ (0x10C : Addr) = BitVec.ofNat 9 (0x100 + 4 * i)) ∧
    (∃ k < 8, (0x07C : Addr) = BitVec.ofNat 9 (0x060 + 4 * k)) ∧
    (∃ k < (base 4).params.nSlots, k < 32 ∧ (0x080 : Addr) = BitVec.ofNat 9 (0x080 + 4 * k)) ∧
    ∃ k < (base 4).params.nSlots, k < 32 ∧ (0x0AC : Addr) = BitVec.ofNat 9 (0x080 + 4 * k) :=
  ⟨by decide, by decide, by decide, ⟨0, by decide, by decide, rfl⟩, ⟨3, by decide, by decide, rfl⟩, ⟨7, by decide, rfl⟩, ⟨0, by decide, by decide, rfl⟩, ⟨11, by decide, by decide, rfl⟩⟩
/-- WritesWithNoEffect: the ends of the reserved ranges and of the slots the block does not have. -/
theorem witness_WritesWithNoEffect :
    (∀ a ∈ ([0x04C, 0x05C] : List Addr), a.toNat % 4 = 0 ∧ 0x04C ≤ a.toNat ∧ a.toNat ≤ 0x05C) ∧
    (∀ a ∈ ([0x180, 0x1FC] : List Addr), a.toNat % 4 = 0 ∧ 0x180 ≤ a.toNat) ∧
    ∀ a ∈ ([0x0B0, 0x0FC] : List Addr), a.toNat % 4 = 0 ∧ 0x080 ≤ a.toNat ∧ a.toNat < 0x100 ∧
      (base 4).params.nSlots ≤ (a.toNat - 0x080) / 4 := by decide
/-- BufWindow: the last LED, the first index past it, and a frame in flight. -/
theorem witness_BufWindow : (base 4).buf.length = (base 4).params.n ∧ (base 4).tx.busy = false ∧
    3 < (base 4).params.n ∧ (base 4).params.n ≤ 4 ∧ (sending (base 4)).tx.busy = true ∧
    (sending (base 4)).buf.length = (base 4).params.n := by decide
theorem witness_ResetInput : ({ sending (base 4) with inputs := [.rst] } : State).inputs = [.rst] := rfl
/-- TxEngineSteps: the first and the last bit, and the latch period. -/
theorem witness_TxEngineSteps : (sending (base 4)).tx.latch = false ∧ (sending (base 4)).tx.pos = 0 ∧
    95 < 24 * (base 4).params.n ∧
    ({ base 4 with tx := ⟨true, 95, false, [], [], []⟩ } : State).tx.latch = false ∧
    ({ base 4 with tx := ⟨true, 96, true, [], [], []⟩ } : State).tx.latch = true := by decide
theorem witness_TransmitSendsTheBuffer : 0 < (base 4).params.n ∧ (base 4).inputs = [] ∧ (base 4).tx.busy = false ∧
    get (exec .transmit (base 4)) (fun _ => ()) = some () := by decide
theorem witness_FrameCycleCount : (base 4).params.Ok := by decide

/-- The reset slot words hold no reserved bit. -/
theorem test_slots_stored : ∀ w ∈ (base 4).slotCfg, slotStorable w = w := by
  have h : ((base 4).slotCfg.all fun w => slotStorable w == w) = true := by decide
  simpa using h
/-- A good state, idle. -/
theorem witness_Inv : (base 4).Inv := by
  constructor
  case slotBits => exact test_slots_stored
  all_goals decide
/-- A good state with a frame in flight, and its step. -/
theorem witness_Inv_busy : (sending (base 4)).Inv ∧
    get (step (sending (base 4))) (fun _ => ()) = some () ∧ (sending (base 4)).inputs.head? ≠ some .rst := by
  refine ⟨?_, by decide, by decide⟩
  constructor
  case slotBits => exact test_slots_stored
  all_goals decide
/-- GoodStatesNeverStick: a good state whose next access is misaligned. -/
theorem witness_Inv_misaligned : ({ base 4 with inputs := [.read 0x001] } : State).Inv := by
  constructor
  case slotBits => exact test_slots_stored
  all_goals decide
/-- OneWriterPerField, StepKeepsInvariants: a step completes for every kind of input. -/
theorem witness_steps : ([.read 0, .write 0x010 0x20000000, .write 0x020 0xC, .tick true, .txTurn, .rst] : List Input).map
    (fun e => get (step { base 4 with inputs := [e] }) (fun _ => ())) = List.replicate 6 (some ()) := by decide

/-- TickOfTheStateMachine: the counts at which its clauses meet. -/
theorem witness_TickOfTheStateMachine : (base 4).params.Ok ∧ (base 4).params.midTicks = 55 ∧
    [0, 1, 9, 10, 11, 54, 55, 56, 99, 100].map (fun c => (counting c false false).db.cnt.toNat) =
      [0, 1, 9, 10, 11, 54, 55, 56, 99, 100] ∧ (base 4).params.longTicks = 100 := by decide
theorem witness_PendingEventHoldsTheMachine :
    (counting 0 false true).db.pending = true ∧ (counting 0 false true).db.cnt = 0 := by decide

/-- A block with S = 1, M = 2 and L = 3. -/
def quick : State := State.resetOf { paramsOf 4 with shortTicks := 1, longTicks := 3 }

/-- PressCycle: the eight cycles that differ in the samples at S + 1, M + 1 and L + 1 all start from idle. -/
theorem witness_PressCycle : quick.params.Ok ∧ quick.params.midTicks = 2 ∧ quick.db.cnt = 0 ∧
    quick.db.pending = false ∧ quick.db.event = .none ∧ quick.db.prov = false ∧
    ∀ a b c : Bool, [true, a, b, c].length = quick.params.longTicks + 1 ∧ [true, a, b, c][0]? = some true ∧
      [true, a, b, c][quick.params.shortTicks]? = some a ∧ [true, a, b, c][quick.params.midTicks]? = some b ∧
      [true, a, b, c][quick.params.longTicks]? = some c := by decide
/-- CycleEnds: the first and the last count of a cycle. -/
theorem witness_CycleEnds : ∀ c ∈ ([1, 3] : List Byte),
    1 ≤ c.toNat ∧ c.toNat ≤ quick.params.longTicks ∧
      (List.replicate (quick.params.longTicks - c.toNat + 1) true).length = quick.params.longTicks - c.toNat + 1 := by
  decide
theorem witness_DemoPeriod : quick.params.Ok ∧ quick.db.cnt.toNat ≤ quick.params.longTicks ∧
    (1 : Word).getLsbD 0 = true ∧ (0 : Word).getLsbD 0 = false := by decide
theorem witness_AcknowledgeWrite : (0xC : Word).getLsbD 2 = true ∧ (0xC : Word).getLsbD 3 = true ∧
    (0x8 : Word).getLsbD 2 = false ∧ (0x4 : Word).getLsbD 3 = false := by decide

end Sys2Proof.Tests
end

namespace Sys2Proof.Machine

/-! # Good states: what every step keeps (10_state.md R45) -/

/-! ### Reset (70_reset_and_hazards.md R371) -/

/-- The reset slot words hold no reserved bit (30_encoding.md R120). -/
theorem slotStorable_of_mem_resetSlots {n : Nat} {w : Word} (hw : w ∈ resetSlots n) : slotStorable w = w := by
  have hall : (((0 : Word) :: resetSlotWords).all fun v => slotStorable v == v) = true := by decide
  obtain ⟨k, -, rfl⟩ := List.mem_map.1 hw
  have hmem : resetSlotWords.getD k 0 ∈ (0 : Word) :: resetSlotWords := by
    rw [List.getD_eq_getElem?_getD]
    cases hk : resetSlotWords[k]? with
    | none => exact List.mem_cons_self
    | some v => exact List.mem_cons_of_mem _ (List.mem_of_getElem? hk)
  exact eq_of_beq (List.all_eq_true.1 hall _ hmem)

theorem State.resetOf_inv {p : Params} (h : p.Ok) : (State.resetOf p).Inv := by
  obtain ⟨hn, hn32, hslots, -, -, -, -, -, -, -, -, -, -, hdemo, -⟩ := id h
  have hpow : 0 < 2 ^ p.n := Nat.two_pow_pos p.n
  refine
    { params := h
      bufLength := List.length_replicate
      slotLength := by simp [State.resetOf, resetSlots]
      slotBits := fun w => slotStorable_of_mem_resetSlots
      argMaskBits := hpow
      groupBits := fun g => ?_
      dbCount := Nat.zero_le _
      pendingIdle := nofun
      noPendingNoEvent := fun _ => rfl
      demoCount := hdemo
      patIdx := hslots
      txIdle := fun _ => ⟨rfl, rfl, rfl⟩
      phase := Nat.zero_le _
      nzCount := Nat.zero_le _
      txSent := nofun
      frames := nofun
      doutIdle := fun _ => nofun
      cnt := Nat.zero_le _
      fadeCnt := Nat.zero_le _
      noError := fun _ => ⟨rfl, rfl⟩
      fadeDone := nofun
      demoOff := fun _ => rfl
      synced := ⟨rfl, rfl⟩ }
  match g with
  | 0 => exact resetGroupMask_lt p.n hn32 0 (by decide)
  | 1 => exact resetGroupMask_lt p.n hn32 1 (by decide)
  | 2 => exact resetGroupMask_lt p.n hn32 2 (by decide)

/-- The OPEN line timing meets its constraint whatever the free numbers are (log entry 3). -/
theorem openLine_ok : 1 ≤ openLine.t0h ∧ openLine.t0h < openLine.t1h ∧ openLine.t1h < openLine.tbit ∧
    1 ≤ openLine.tres := by
  simp only [openLine]
  omega

theorem Params.defaults_ok : Params.defaults.Ok := by
  have hlut : Params.defaults.LutOk := by decide
  obtain ⟨h0, h1, hbit, hres⟩ := openLine_ok
  refine ⟨by decide, by decide, by decide, by decide, by decide, by decide, by decide, by decide, by decide, hlut,
    by decide, by decide, by decide, by decide, by decide, h0, h1, hbit, hres, Nat.le_add_left 1 _⟩

/-- Settles O58: the reset state clause by clause, and the defaults meet the constraint of R8. -/
theorem invariantsHoldAtReset : Obligations.InvariantsHoldAtReset :=
  ⟨fun _ => State.resetOf_inv, State.resetOf_inv Params.defaults_ok⟩

/-! ### Updates that keep a good state good -/

section
variable {s : State}

/-- MULTI and ERR_INFO are written only where a cause is held (60_exceptions.md R333). -/
theorem State.Inv.raise (h : s.Inv) {c : Cause} (hc : c ≠ .none) (info : Word) : (s.raise c info).Inv :=
  { h with
    noError := by
      rw [State.raise_err, ErrRecord.record]
      split
      · exact fun hn => absurd hn hc
      · exact fun hn => absurd hn ‹_› }

theorem State.Inv.clearErr (h : s.Inv) : s.clearErr.Inv := { h with noError := fun _ => ⟨rfl, rfl⟩ }

theorem State.Inv.markDirty (h : s.Inv) : s.markDirty.Inv := { h with }

theorem State.Inv.setInputs (h : s.Inv) (l : List Input) : { s with inputs := l }.Inv := { h with }

theorem State.Inv.recordStatus (h : s.Inv) {r : PStatus} (hr : r = .fadeDone → s.fadeActive = true) :
    (s.recordStatus r).Inv := { h with fadeDone := hr }

/-- A frame in flight depends on the buffer, so the buffer is written in an idle block only (20_memory.md R88). -/
theorem State.Inv.setBuf (h : s.Inv) (hi : s.tx.busy = false) {b : List Color} (hb : b.length = s.params.n) :
    { s with buf := b }.Inv :=
  { h with
    bufLength := hb
    txSent := fun hbusy => absurd (hi.symm.trans hbusy) (by decide) }

theorem State.Inv.resetStep (h : s.Inv) : s.resetStep.Inv := { State.resetOf_inv h.params with }

/-! ### Idle good states, in which commands run -/

/-- A good state with no frame in flight: what a command other than NOP needs to do more than raise BUSY
(40_host_access.md R146). -/
structure State.Ready (s : State) : Prop where
  inv : s.Inv
  idle : s.tx.busy = false

theorem State.Ready.setBuf (h : s.Ready) {b : List Color} (hb : b.length = s.params.n) : { s with buf := b }.Ready :=
  ⟨h.inv.setBuf h.idle hb, h.idle⟩

theorem State.Ready.setRand (h : s.Ready) (r : RandPort) : { s with rand := r }.Ready := ⟨{ h.inv with }, h.idle⟩

theorem State.Ready.setNzCount (h : s.Ready) {v : Byte} (hv : v.toNat ≤ 3 * s.params.n) :
    { s with nzCount := v }.Ready :=
  ⟨{ h.inv with nzCount := hv }, h.idle⟩

theorem State.Ready.setCnt (h : s.Ready) {v : Byte} (hv : v.toNat ≤ 254) : (s.setCnt v).Ready :=
  ⟨{ h.inv with cnt := hv }, h.idle⟩

theorem State.Ready.setCnt_zero (h : s.Ready) : (s.setCnt 0).Ready := h.setCnt (by decide)

theorem State.Ready.setFadeCnt (h : s.Ready) {v : Byte} (hv : v.toNat ≤ 254) : (s.setFadeCnt v).Ready :=
  ⟨{ h.inv with fadeCnt := hv }, h.idle⟩

theorem State.Ready.setPhase (h : s.Ready) {v : BitVec 2} (hv : v.toNat ≤ 2) : (s.setPhase v).Ready :=
  ⟨{ h.inv with phase := hv }, h.idle⟩

theorem State.Ready.setMask (h : s.Ready) (v : BitVec 3) : (s.setMask v).Ready := ⟨{ h.inv with }, h.idle⟩

theorem State.Ready.drawIfRandom (h : s.Ready) (w : Word) : (s.drawIfRandom w).Ready := by
  unfold State.drawIfRandom
  split
  · exact ⟨{ h.inv with }, h.idle⟩
  · exact h

/-! ### The colour-buffer primitives -/

theorem State.Ready.paint (h : s.Ready) (f : Nat → Color) : (s.paint f).Ready := h.setBuf (State.paint_buf_length s f)

theorem State.Ready.fillWhere (h : s.Ready) (member : Nat → Bool) (c : Color) : (s.fillWhere member c).Ready :=
  h.paint _

theorem State.Ready.rotate (h : s.Ready) (k : Nat) : (s.rotate k).Ready := by
  rw [State.rotate_frame]
  exact h.setBuf (State.rotate_buf_length s k h.inv.bufLength)

/-- NZCOUNT holds the recount, which is at most 3N and so fits its 8 bits (10_state.md R45.8). -/
theorem State.Ready.halve (h : s.Ready) : s.halve.1.Ready := by
  refine (h.paint _).setNzCount ?_
  rw [BitVec.toNat_ofNat]
  exact (Nat.mod_le _ _).trans (State.litCount_le _)

theorem State.Ready.randomFill (h : s.Ready) : s.randomFill.Ready := (h.paint _).setRand _

theorem State.Ready.rainbow (h : s.Ready) : s.rainbow.Ready := h.paint _

/-! ### The generators' shared parts (42_pattern_engine.md R206 to R218) -/

theorem flashColors_le (w : Word) : flashColors w ≤ 3 := by
  unfold flashColors
  split <;> decide

theorem flashColors_pos (w : Word) : 0 < flashColors w := by
  unfold flashColors
  split <;> decide

/-- PHASE stays below K, which is at most 3 (10_state.md R45.7). -/
theorem State.Ready.flashRefill (h : s.Ready) (w : Word) : (s.flashRefill w).Ready := by
  refine State.Ready.paint (h.setPhase ?_) _
  have hlt := Nat.mod_lt (s.gen.phase.toNat + 1) (flashColors_pos w)
  have hle := flashColors_le w
  rw [BitVec.toNat_ofNat, Nat.mod_eq_of_lt (by omega)]
  omega

theorem State.Ready.revealStep (h : s.Ready) (seed : BitVec 3) (group : Nat → Nat → Bool) (col : Nat → Color) :
    (s.revealStep seed group col).Ready :=
  (((h.setMask _).fillWhere _ _).fillWhere _ _).fillWhere _ _

theorem State.Ready.halveOrRefill (h : s.Ready) {refill : State → State}
    (hr : ∀ t : State, t.Ready → (refill t).Ready) : (s.halveOrRefill refill).Ready := by
  by_cases hd : s.DarkAfterHalving
  · rw [State.halveOrRefill_dark hd]
    exact hr _ h.halve
  · rw [State.halveOrRefill_lit hd]
    exact h.halve

/-- A count that stops below an 8-bit bound is at most 254. -/
theorem toNat_le_of_lt_byte {v : Byte} {bound : Nat} (h : v.toNat < bound) (hb : bound < 256) : v.toNat ≤ 254 := by
  omega

/-- CNT counts while it is below PERIOD, which is at most 255 (42_pattern_engine.md R206). -/
theorem State.Ready.onCadence (h : s.Ready) (w : Word) {act : State → State}
    (ha : ∀ t : State, t.Ready → (act t).Ready) : (s.onCadence (slotPeriod w) act).1.Ready := by
  rcases Nat.lt_or_ge (s.gen.cnt + 1).toNat (slotPeriod w) with hc | hc
  · rw [State.onCadence_waits hc]
    exact h.setCnt (toNat_le_of_lt_byte hc (w.extractLsb' 8 8).isLt)
  · rw [State.onCadence_acts hc]
    exact ha _ h.setCnt_zero

/-! ### The generators -/

theorem genSolid_ready (h : s.Ready) (w : Word) (prev : PStatus) : (genSolid w s prev).1.Ready := by
  unfold genSolid
  split
  · dsimp only
    split
    · exact h.setCnt_zero.randomFill
    · exact h.setCnt_zero.paint _
  · exact h

theorem genRainbow_ready (h : s.Ready) (prev : PStatus) : (genRainbow s prev).1.Ready := by
  unfold genRainbow
  split
  · exact h.setCnt_zero.rainbow
  · exact h

theorem genBreathe_ready (h : s.Ready) (w : Word) (prev : PStatus) : (genBreathe w s prev).1.Ready := by
  unfold genBreathe
  split
  · exact h.setCnt_zero.rainbow
  · exact h.onCadence w fun t ht => ht.halveOrRefill fun u hu => hu.rainbow

theorem genWheel_ready (h : s.Ready) (w : Word) (prev : PStatus) : (genWheel w s prev).1.Ready := by
  unfold genWheel
  split
  · exact h.setCnt_zero.rainbow
  · exact h.onCadence w fun t ht => ht.rotate 3

theorem genFlash_ready (h : s.Ready) (w : Word) (prev : PStatus) : (genFlash w s prev).1.Ready := by
  unfold genFlash
  split
  · exact (h.setCnt_zero.setPhase (by decide)).paint _
  · exact h.onCadence w fun t ht => ht.halveOrRefill fun u hu => hu.flashRefill w

theorem genCrazy_ready (h : s.Ready) (w : Word) (prev : PStatus) : (genCrazy w s prev).1.Ready := by
  unfold genCrazy
  split
  · exact h.setCnt_zero.randomFill
  · exact h.onCadence w fun t ht => ht.halveOrRefill fun u hu => hu.randomFill

theorem genWalk_ready (h : s.Ready) (w : Word) (prev : PStatus) : (genWalk w s prev).1.Ready := by
  unfold genWalk
  split
  · exact ((h.setCnt_zero.drawIfRandom w).paint _).fillWhere _ _
  · exact h.onCadence w fun t ht => ht.rotate _

theorem genArc_ready (h : s.Ready) (w : Word) (prev : PStatus) : (genArc w s prev).1.Ready := by
  unfold genArc
  split
  · exact ((h.setCnt_zero.setMask _).paint _).fillWhere _ _
  · exact h.onCadence w fun t ht => ht.revealStep _ _ _

theorem genRing_ready (h : s.Ready) (w : Word) (prev : PStatus) : (genRing w s prev).1.Ready := by
  unfold genRing
  split
  · exact (((h.setCnt_zero.drawIfRandom w).setMask _).paint _).fillWhere _ _
  · exact h.onCadence w fun t ht => ht.revealStep _ _ _

theorem genStep_ready (h : s.Ready) (w : Word) (prev : PStatus) : (genStep w s prev).1.Ready := by
  unfold genStep
  split
  · exact genSolid_ready h w prev
  · exact genRainbow_ready h prev
  · exact genBreathe_ready h w prev
  · exact genWheel_ready h w prev
  · exact genFlash_ready h w prev
  · exact genCrazy_ready h w prev
  · exact genWalk_ready h w prev
  · exact genArc_ready h w prev
  · exact genRing_ready h w prev
  · exact h

theorem State.Ready.fadeHalve (h : s.Ready) : s.fadeHalve.1.Ready :=
  State.Ready.halve (h.setFadeCnt (by decide))

/-- FADE_CNT counts while it is below DELAY, which is at most 255 (42_pattern_engine.md R220). -/
theorem fadeStep_ready (h : s.Ready) (prev : PStatus) : (fadeStep s prev).1.Ready := by
  unfold fadeStep
  split
  · exact h.fadeHalve
  · split
    · exact h.fadeHalve
    · exact h.setFadeCnt (toNat_le_of_lt_byte (Nat.lt_of_not_le ‹_›) s.fadeDelay.isLt)

theorem State.Ready.generate (h : s.Ready) : s.generate.1.Ready := by
  unfold State.generate
  split
  · exact fadeStep_ready h _
  · exact genStep_ready h _ _

/-! ### STEP -/

/-- A word that keeps its row of the validity table has a kind (30_encoding.md R123). -/
theorem slotKind_ne_none {w : Word} (h : slotValid w = true) : slotKind w ≠ none := by
  intro hk
  rw [slotValid, hk] at h
  cases h

/-- What `check_step` can answer (42_pattern_engine.md R204). -/
theorem State.stepCheck_cases (s : State) :
    (∃ c, s.stepCheck = some c ∧ c ≠ .none) ∨
    (s.stepCheck = none ∧ (s.fadeActive = true ∨ slotValid s.cfg = true)) := by
  unfold State.stepCheck
  split
  · exact .inl ⟨_, rfl, by decide⟩
  · split
    · split
      · exact .inl ⟨_, rfl, by decide⟩
      · exact .inr ⟨rfl, .inl ‹_›⟩
    · split
      · exact .inr ⟨rfl, .inr ‹_›⟩
      · exact .inl ⟨_, rfl, by decide⟩

/-- A STEP that passes its checks returns FadeDone only from an active fade (42_pattern_engine.md R221). -/
theorem State.generate_fadeDone (hv : s.fadeActive = true ∨ slotValid s.cfg = true)
    (hd : s.generate.2 = .fadeDone) : s.fadeActive = true := by
  rcases hv with hf | hv
  · exact hf
  · by_contra hf
    rw [State.generate, if_neg hf] at hd
    rcases (genStep_frame s.cfg s s.pstat).2 (slotKind_ne_none hv) with hs | hs <;> cases hs.symm.trans hd

/-- No generator writes FADE_ACTIVE. -/
theorem GenFrame.fadeActive {t : State} (h : GenFrame s t) : t.fadeActive = s.fadeActive := by
  unfold GenFrame at h
  rw [h]

end

/-! ### Commands -/

/-- The result is a good state. -/
def Result.Good (r : Result) : Prop := ∃ t, r = .next t ∧ t.Inv

section
variable {s : State}

theorem State.Inv.good (h : s.Inv) : Result.Good (.next s) := ⟨s, rfl, h⟩

/-- A command is good if what it does in an idle block is (40_host_access.md R146). -/
theorem unlessBusy_good {i : Instr} {body : State} (h : s.Inv) (hb : s.Ready → body.Inv) :
    Result.Good (unlessBusy i s body) := by
  cases hi : s.tx.busy with
  | false => exact ⟨_, unlessBusy_idle hi, hb ⟨h, hi⟩⟩
  | true => exact ⟨_, unlessBusy_busy hi, h.raise (by decide) _⟩

theorem execFillRange_good (h : s.Inv) (lo hi : Nat) : Result.Good (execFillRange lo hi s) :=
  unlessBusy_good h fun hr => by
    split
    · exact h.raise (by decide) _
    · exact (hr.fillWhere _ _).inv.markDirty

/-- An accepted slot is below N_SLOTS, so its index fits PAT_IDX (10_state.md R45.5). -/
theorem execSelect_good (h : s.Inv) (slot : Nat) : Result.Good (execSelect slot s) :=
  unlessBusy_good h fun _ => by
    split
    · exact h.raise (by decide) _
    · refine { h with patIdx := ?_, fadeDone := nofun }
      rw [BitVec.toNat_ofNat]
      exact (Nat.mod_le _ _).trans_lt (Nat.lt_of_not_le ‹_›)

theorem execFadeStart_good (h : s.Inv) : Result.Good (execFadeStart s) :=
  unlessBusy_good h fun _ => { h with fadeDone := nofun }

theorem execStep_good (h : s.Inv) : Result.Good (execStep s) :=
  unlessBusy_good h fun hr => by
    rcases s.stepCheck_cases with ⟨c, hc, hne⟩ | ⟨hc, hv⟩
    · rw [hc]
      exact h.raise hne _
    · rw [hc]
      exact hr.generate.inv.recordStatus fun hd => s.generate_frame.fadeActive.trans (State.generate_fadeDone hv hd)

/-- A frame starts with no bit sent, and has a bit to send since N is not 0 (41_transmitter.md R171). -/
theorem execTransmit_good (h : s.Inv) : Result.Good (execTransmit s) :=
  unlessBusy_good h fun _ =>
    { h with
      txIdle := nofun
      doutIdle := nofun
      txSent := fun _ => by
        obtain ⟨hn, -⟩ := h.params
        refine ⟨rfl, Nat.zero_le _, nofun, fun hz => ?_⟩
        dsimp only at hz
        omega }

/-- Every command takes a good state to a good state. -/
theorem exec_good (h : s.Inv) (i : Instr) : Result.Good (exec i s) := by
  cases i with
  | nop => exact h.good
  | fillAll => exact unlessBusy_good h fun hr => (hr.paint _).inv.markDirty
  | fillRange lo hi => exact execFillRange_good h lo hi
  | fillMask => exact unlessBusy_good h fun hr => (hr.fillWhere _ _).inv.markDirty
  | rotate k => exact unlessBusy_good h fun hr => (hr.rotate k).inv.markDirty
  | halve => exact unlessBusy_good h fun hr => hr.halve.inv.markDirty
  | rainbow => exact unlessBusy_good h fun hr => hr.rainbow.inv.markDirty
  | randomFill => exact unlessBusy_good h fun hr => hr.randomFill.inv.markDirty
  | select slot => exact execSelect_good h slot
  | fadeStart => exact execFadeStart_good h
  | step => exact execStep_good h
  | transmit => exact execTransmit_good h

theorem execute_good (h : s.Inv) (w : Word) : Result.Good (execute w s) := by
  unfold execute
  split
  · exact exec_good h _
  · exact (h.raise (by decide) w).good

end

/-! ### The debounce unit and the demo counter -/

/-- The clauses of `State.Inv` on the debounce unit (10_state.md R45.1 to R45.3; log entry 6). -/
structure DbUnit.Good (longTicks : Nat) (d : DbUnit) : Prop where
  count : d.cnt.toNat ≤ longTicks
  pendingIdle : d.pending = true → d.cnt = 0 ∧ d.prov = false
  noPendingNoEvent : d.pending = false → d.event = .none
  synced : d.sync1 = d.sync2 ∧ d.sync2 = !d.btn

/-- The clauses of `State.Inv` on the demo counter (10_state.md R45.4, 44_debounce_demo.md R302). -/
structure DemoUnit.Good (demoTicks : Nat) (m : DemoUnit) : Prop where
  count : m.cnt.toNat < demoTicks
  off : m.en = false → m.cnt = 0

section
variable {L : Nat} {d : DbUnit}

theorem DbUnit.Good.sample (h : d.Good L) (p : Bool) :
    ({ d with sync1 := !p, sync2 := !p, btn := p } : DbUnit).Good L := { h with synced := ⟨rfl, rfl⟩ }

theorem DbUnit.Good.setNextReq (h : d.Good L) (b : Bool) : ({ d with nextReq := b } : DbUnit).Good L := { h with }

/-- A count that is not 0 is in a cycle, so no event is pending. -/
theorem DbUnit.Good.not_pending (h : d.Good L) (hc : d.cnt.toNat ≠ 0) : d.pending = false := by
  by_contra hp
  exact hc (congrArg BitVec.toNat (h.pendingIdle (by simpa using hp)).1)

theorem DbUnit.Good.setProv (h : d.Good L) (hp : d.pending = false) : ({ d with prov := true } : DbUnit).Good L :=
  { h with pendingIdle := fun hq => absurd (hp.symm.trans hq) (by decide) }

theorem DbUnit.Good.count_next (h : d.Good L) (hp : d.pending = false) (hc : d.cnt.toNat < L) (hL : L ≤ 255) :
    d.count.Good L :=
  { h with
    count := (cnt_succ hc hL).trans_le hc
    pendingIdle := fun hq => absurd (hp.symm.trans hq) (by decide) }

theorem DbUnit.Good.back_to_idle (h : d.Good L) : d.idle.Good L :=
  { h with
    count := Nat.zero_le L
    pendingIdle := fun _ => ⟨rfl, rfl⟩ }

/-- The end of a cycle with an event: the unit is idle with the event pending (44_debounce_demo.md R297). -/
theorem DbUnit.Good.emit_idle (h : d.Good L) (e : PressEvent) : (d.emit e).idle.Good L :=
  { h with
    count := Nat.zero_le L
    pendingIdle := fun _ => ⟨rfl, rfl⟩
    noPendingNoEvent := nofun }

/-- The state machine completes on a good unit and leaves a good one (44_debounce_demo.md R293 to R298). -/
theorem DbUnit.Good.fsm {pr : Params} (h : d.Good pr.longTicks) (hpr : pr.Ok) :
    ∃ e, d.fsm pr = some e ∧ e.Good pr.longTicks := by
  obtain ⟨-, -, -, -, -, -, -, -, -, -, hS, hSL, hL, -⟩ := hpr
  obtain ⟨hSM, hML⟩ := Params.ticks_ordered hSL
  rcases DbUnit.fsm_cases hSL h.count with
    ⟨hc, hf⟩ | ⟨hc, hlt, -, -, hf⟩ | ⟨hc, hf⟩ | ⟨hc, hf⟩ | ⟨hc, hf⟩ <;> refine ⟨_, hf, ?_⟩
  · split
    · next hp =>
      exact { h with
        count := by simpa using (show 1 ≤ pr.longTicks by omega)
        pendingIdle := fun hq => absurd (hp.2.symm.trans hq) (by decide) }
    · exact h
  · exact h.count_next (h.not_pending hc) hlt hL
  · have hp := h.not_pending (by omega)
    split
    · exact (h.setProv hp).count_next hp (by dsimp only; omega) hL
    · exact h.count_next hp (by omega) hL
  · split
    · exact h.emit_idle .short
    · exact h.count_next (h.not_pending (by omega)) (by omega) hL
  · split
    · exact h.emit_idle .long
    · split
      · exact h.emit_idle .short
      · exact h.back_to_idle

end

theorem DemoUnit.Good.tick {D : Nat} {m : DemoUnit} (h : m.Good D) : (m.tick D).1.Good D := by
  unfold DemoUnit.tick
  split
  · next hen =>
    split
    · exact ⟨h.count.trans_le' (Nat.zero_le _), fun _ => rfl⟩
    · exact ⟨Nat.lt_of_not_le ‹_›, fun he => absurd (he.symm.trans hen) (by decide)⟩
  · exact h

section
variable {s : State}

theorem State.Inv.dbGood (h : s.Inv) : s.db.Good s.params.longTicks :=
  ⟨h.dbCount, h.pendingIdle, h.noPendingNoEvent, h.synced⟩

theorem State.Inv.demoGood (h : s.Inv) : s.demo.Good s.params.demoTicks := ⟨h.demoCount, h.demoOff⟩

theorem State.Inv.setDb (h : s.Inv) {d : DbUnit} (hd : d.Good s.params.longTicks) : { s with db := d }.Inv :=
  { h with
    dbCount := hd.count
    pendingIdle := hd.pendingIdle
    noPendingNoEvent := hd.noPendingNoEvent
    synced := hd.synced }

theorem State.Inv.setDemo (h : s.Inv) {m : DemoUnit} (hm : m.Good s.params.demoTicks) : { s with demo := m }.Inv :=
  { h with
    demoCount := hm.count
    demoOff := hm.off }

/-- A tick never faults in a good state: DB_CNT is at most LONG_TICKS (10_state.md R45). -/
theorem tickStep_good (h : s.Inv) (p : Bool) : Result.Good (tickStep p s) := by
  obtain ⟨d, hf, hd⟩ := (h.dbGood.sample p).fsm h.params
  exact ⟨_, tickStep_of_fsm hf, (h.setDb (hd.setNextReq _)).setDemo h.demoGood.tick⟩

/-- An acknowledge clears PENDING and EVENT together (44_debounce_demo.md R300). -/
theorem State.Inv.ackWrite (h : s.Inv) (v : Word) : (s.ackWrite v).Inv := by
  refine h.setDb { h.dbGood with pendingIdle := fun hp => ?_, noPendingNoEvent := fun hp => ?_ }
  · exact h.pendingIdle (Bool.and_eq_true_iff.1 hp).1
  · dsimp only at hp ⊢
    split
    · rfl
    · next hv =>
      rw [Bool.eq_false_of_not_eq_true hv, Bool.not_false, Bool.and_true] at hp
      exact h.noPendingNoEvent hp

theorem State.Inv.demoWrite (h : s.Inv) (v : Word) : (s.demoWrite v).Inv :=
  h.setDemo ⟨h.demoCount.trans_le' (Nat.zero_le _), fun _ => rfl⟩

/-! ### The transmitter -/

/-- The emit step sends the frame's next bit (41_transmitter.md R176). -/
theorem State.Inv.emitBit (h : s.Inv) (hb : s.tx.busy = true) {b : Bool} (hbit : s.frameBits[s.tx.pos]? = some b) :
    (s.emitBit b).Inv := by
  obtain ⟨hbits, -, -⟩ := h.txSent hb
  obtain ⟨hlt, hget⟩ := List.getElem?_eq_some_iff.1 hbit
  refine
    { h with
      txIdle := fun hi => absurd (hb.symm.trans hi) (by decide)
      doutIdle := fun hi => absurd (hb.symm.trans hi) (by decide)
      txSent := fun _ => ⟨?_, ?_, decide_eq_true_iff⟩ }
  · show s.tx.bits ++ [b] = s.frameBits.take (s.tx.pos + 1)
    rw [hbits, ← hget, List.take_append_getElem]
  · rwa [State.frameBits_length] at hlt

/-- The latch step closes a frame whose bits were all sent (41_transmitter.md R177, R181). -/
theorem State.Inv.latchFrame (h : s.Inv) (hb : s.tx.busy = true) (hl : s.tx.latch = true) : s.latchFrame.Inv := by
  obtain ⟨hbits, -, hlatch⟩ := h.txSent hb
  have hlen : s.tx.bits.length = 24 * s.params.n := by
    rw [hbits, hlatch.1 hl, ← State.frameBits_length, List.take_length]
  exact
    { h with
      txIdle := fun _ => ⟨rfl, rfl, rfl⟩
      txSent := nofun
      frames := fun f hf => (List.mem_append.1 hf).elim (h.frames f) fun hf => List.mem_singleton.1 hf ▸ hlen
      doutIdle := fun _ r hr => List.mem_singleton.1 hr ▸ rfl }

/-- A turn never faults in a good state: a frame that is not in its latch period has a bit left. -/
theorem txTurn_good (h : s.Inv) : Result.Good (txTurn s) := by
  unfold txTurn
  split
  · next hb =>
    split
    · next hl => exact (h.latchFrame hb hl).good
    · next hl =>
      obtain ⟨-, hle, hlatch⟩ := h.txSent hb
      have hlt : s.tx.pos < s.frameBits.length := by
        rw [State.frameBits_length]
        exact lt_of_le_of_ne hle fun he => hl (hlatch.2 he)
      rw [List.getElem?_eq_getElem hlt]
      exact (h.emitBit hb (List.getElem?_eq_getElem hlt)).good
  · exact h.good

/-! ### The host's accesses -/

theorem State.Inv.bufWrite (h : s.Inv) (a : Addr) (i : Nat) (v : Word) : (s.bufWrite a i v).Inv := by
  unfold State.bufWrite
  split
  · exact h.raise (by decide) _
  · next hb =>
    split
    · exact h.raise (by decide) _
    · exact (h.setBuf (Bool.eq_false_of_not_eq_true hb) (List.length_set.trans h.bufLength)).markDirty

theorem State.Inv.setSlot (h : s.Inv) (k : Nat) (v : Word) :
    { s with slotCfg := s.slotCfg.set k (slotStorable v) }.Inv :=
  { h with
    slotLength := List.length_set.trans h.slotLength
    slotBits := fun w hw => (List.mem_or_eq_of_mem_set hw).elim (h.slotBits w) fun he => he ▸ slotStorable_idem v }

theorem State.Inv.setGroupMask (h : s.Inv) (g : Fin 3) (v : Word) :
    { s with groupMasks := s.groupMasks.set g (lowBits s.params.n v) }.Inv := by
  obtain ⟨-, hn32, -⟩ := id h.params
  refine { h with groupBits := fun k => ?_ }
  show ((s.groupMasks.set g (lowBits s.params.n v))[k.val]).toNat < _
  rw [Vector.getElem_set]
  split
  · exact lowBits_lt _ v hn32
  · exact h.groupBits k

theorem State.Inv.setArgMask (h : s.Inv) (v : Word) : { s with argMask := lowBits s.params.n v }.Inv := by
  obtain ⟨-, hn32, -⟩ := id h.params
  exact { h with argMaskBits := lowBits_lt _ v hn32 }

/-- Every register write takes a good state to a good state (40_host_access.md R141, R148). -/
theorem writeReg_good (h : s.Inv) (a : Addr) (v : Word) (r : Reg) : Result.Good (writeReg a v s r) := by
  cases r with
  | err => exact h.clearErr.good
  | cmd => exact execute_good h v
  | argMask => exact (h.setArgMask v).good
  | dbStatus => exact (h.ackWrite v).good
  | demoCtrl => exact (h.demoWrite v).good
  | groupMask g => exact (h.setGroupMask g v).good
  | slotCfg k =>
    refine State.Inv.good ?_
    split
    · exact h.setSlot k v
    · exact h
  | buf i => exact (h.bufWrite a i v).good
  | argColor | fadeDelay | palette => exact State.Inv.good { h with }
  | info | status | errInfo | nzCount | genState | genRcolor | dbParam | demoParam | reserved => exact h.good

/-! ### A step -/

/-- The input is a host access to a misaligned address (20_memory.md R73). -/
def Input.Misaligned (e : Input) : Prop := ∃ a : Addr, a.toNat % 4 ≠ 0 ∧ (e = .read a ∨ ∃ v, e = .write a v)

/-- What one input does in a good state: it leaves a good state, or it is a misaligned access and refused. -/
theorem perform_good (h : s.Inv) (e : Input) :
    Result.Good (perform e s) ∨ (perform e s = .refused .misalignedAccess ∧ e.Misaligned) := by
  cases e with
  | read a =>
    by_cases ha : aligned a = true
    · exact .inl ⟨_, if_pos ha, { h with }⟩
    · exact .inr ⟨if_neg ha, a, fun hm => ha ((aligned_iff a).2 hm), .inl rfl⟩
  | write a v =>
    by_cases ha : aligned a = true
    · left
      show Result.Good (hostWrite a v s)
      rw [hostWrite, if_pos ha]
      exact writeReg_good h a v _
    · exact .inr ⟨if_neg ha, a, fun hm => ha ((aligned_iff a).2 hm), .inr ⟨v, rfl⟩⟩
  | tick p => exact .inl (tickStep_good h p)
  | txTurn => exact .inl (txTurn_good h)
  | rst => exact .inl h.resetStep.good

/-- What a step of a good state does. -/
theorem step_good (h : s.Inv) :
    Result.Good (step s) ∨
    (step s = .refused .misalignedAccess ∧ ∃ e, s.inputs.head? = some e ∧ e.Misaligned) := by
  unfold step
  split
  · exact .inl (txTurn_good h)
  · next e rest hin =>
    rcases perform_good (h.setInputs rest) e with hg | ⟨hr, hm⟩
    · exact .inl hg
    · exact .inr ⟨hr, e, by rw [hin]; rfl, hm⟩

end

/-- Settles O59: a step of a good state either leaves a good state or does not complete. -/
theorem stepKeepsInvariants : Obligations.StepKeepsInvariants := by
  intro s t h hst
  rcases step_good h with ⟨u, hu, hinv⟩ | ⟨hr, -⟩
  · cases hu.symm.trans hst
    exact hinv
  · cases hr.symm.trans hst

/-- Settles O60: in a good state neither fault can be raised, so only a misaligned access stops a step. -/
theorem goodStatesNeverStick : Obligations.GoodStatesNeverStick := by
  intro s h
  rcases step_good h with ⟨t, ht, -⟩ | ⟨hr, e, he, a, ha, hacc⟩
  · exact .inl ⟨t, ht⟩
  · refine .inr ⟨hr, a, ha, ?_⟩
    rcases hacc with rfl | ⟨v, rfl⟩
    · exact .inl he
    · exact .inr ⟨v, he⟩

end Sys2Proof.Machine

namespace Sys2Proof.Machine

/-! # The register space (20_memory.md) -/

/-! ### Alignment and the address map (20_memory.md R73, R75) -/

theorem hostRead_aligned {a : Addr} (ha : a.toNat % 4 = 0) (s : State) :
    hostRead a s = .next { s with rdata := s.busRead a } := if_pos ((aligned_iff a).2 ha)

theorem hostRead_misaligned {a : Addr} (ha : a.toNat % 4 ≠ 0) (s : State) :
    hostRead a s = .refused .misalignedAccess := if_neg fun h => ha ((aligned_iff a).1 h)

theorem hostWrite_misaligned {a : Addr} (ha : a.toNat % 4 ≠ 0) (v : Word) (s : State) :
    hostWrite a v s = .refused .misalignedAccess := if_neg fun h => ha ((aligned_iff a).1 h)

/-- A write that completes is one to the register at an aligned address. -/
theorem writeReg_of_hostWrite {a : Addr} {v : Word} {s t : State} (h : hostWrite a v s = .next t) :
    a.toNat % 4 = 0 ∧ writeReg a v s (regAt a) = .next t := by
  unfold hostWrite at h
  split at h
  · exact ⟨(aligned_iff a).1 ‹_›, h⟩
  · cases h

/-- Settles O39: neither access has a step at such an address. -/
theorem misalignedAccessRefused : Obligations.MisalignedAccessRefused :=
  fun s _ v ha => ⟨hostRead_misaligned ha s, hostWrite_misaligned ha v s⟩

theorem regAt_groupMask : ∀ g : Fin 3, regAt (BitVec.ofNat 9 (0x040 + 4 * g)) = .groupMask g := by decide

theorem regAt_palette : ∀ k : Fin 8, regAt (BitVec.ofNat 9 (0x060 + 4 * k)) = .palette k := by decide

theorem regAt_slotCfg : ∀ k < 32, regAt (BitVec.ofNat 9 (0x080 + 4 * k)) = .slotCfg k := by decide

/-- An aligned address is the address of its word's number. -/
theorem ofNat_mul_div_of_aligned {a : Addr} (ha : a.toNat % 4 = 0) : BitVec.ofNat 9 (4 * (a.toNat / 4)) = a := by
  rw [show 4 * (a.toNat / 4) = a.toNat by omega, BitVec.ofNat_toNat, BitVec.setWidth_eq]

/-- The reserved offsets of the map (20_memory.md R76). -/
theorem regAt_reserved {a : Addr} (ha : a.toNat % 4 = 0)
    (hr : a = 0x03C ∨ (0x04C ≤ a.toNat ∧ a.toNat ≤ 0x05C) ∨ 0x180 ≤ a.toNat) : regAt a = .reserved := by
  have hmap : ∀ n < 128, 4 * n = 0x03C ∨ (0x04C ≤ 4 * n ∧ 4 * n ≤ 0x05C) ∨ 0x180 ≤ 4 * n →
      regAt (BitVec.ofNat 9 (4 * n)) = .reserved := by decide
  rw [← ofNat_mul_div_of_aligned ha]
  refine hmap _ (by have := a.isLt; omega) ?_
  rcases hr with rfl | hr
  · exact .inl rfl
  · omega

/-! ### A step is its input's -/

theorem step_nil {s : State} (h : s.inputs = []) : step s = txTurn s := by
  rw [step, h]

theorem step_cons {s : State} {e : Input} {rest : List Input} (h : s.inputs = e :: rest) :
    step s = perform e { s with inputs := rest } := by
  rw [step, h]

/-! ### Reading a register (10_state.md R23 to R41) -/

/-- What registers read as does not depend on the model's own fields for the bus (log entries 2 and 5). -/
theorem State.readReg_setRdata (s : State) (l : List Input) (w : Word) (r : Reg) :
    ({ s with inputs := l, rdata := w } : State).readReg r = s.readReg r := by
  cases r <;> rfl

/-- A read answers the register's word and leaves the register as it was (20_memory.md R77). -/
theorem step_read {s : State} {a : Addr} {rest : List Input} (hin : s.inputs = .read a :: rest)
    (ha : a.toNat % 4 = 0) :
    ∃ t, step s = .next t ∧ t = { s with inputs := rest, rdata := s.busRead a } ∧ t.busRead a = s.busRead a := by
  have hread : ({ s with inputs := rest } : State).busRead a = s.busRead a := s.readReg_setRdata rest s.rdata _
  refine ⟨_, ?_, rfl, s.readReg_setRdata rest _ _⟩
  rw [step_cons hin, ← hread]
  exact hostRead_aligned ha _

theorem PStatus.code_toNat (p : PStatus) :
    p.code.toNat = if p = .new then 0 else if p = .refresh then 1 else if p = .noChange then 2 else 3 := by
  cases p <;> rfl

theorem Cause.code_toNat (c : Cause) :
    c.code.toNat = if c = .none then 0 else if c = .illegal then 1 else if c = .range then 2
      else if c = .busy then 3 else if c = .state then 4 else 5 := by
  cases c <;> rfl

theorem PressEvent.code_toNat (e : PressEvent) :
    e.code.toNat = if e = .none then 0 else if e = .short then 1 else 2 := by
  cases e <;> rfl

/-- A reserved field is 0 as a number too. -/
theorem toNat_reserved (n : Nat) : (0 : BitVec n).toNat = 0 := BitVec.toNat_zero

theorem flagBit_toNat (b : Bool) : (flagBit b).toNat = b.toNat := BitVec.toNat_ofBool b

theorem State.statusWord_toNat (s : State) : s.statusWord.toNat =
    s.tx.busy.toNat + 2 ^ 1 * s.dirty.toNat + 2 ^ 2 * s.pstat.code.toNat + 2 ^ 4 * s.fadeActive.toNat +
      2 ^ 8 * s.patIdx.toNat := by
  simp only [State.statusWord, toNat_append_sum, flagBit_toNat, toNat_reserved]
  omega

theorem ErrRecord.word_toNat (e : ErrRecord) : e.word.toNat = e.cause.code.toNat + 2 ^ 8 * e.multi.toNat := by
  simp only [ErrRecord.word, toNat_append_sum, flagBit_toNat, toNat_reserved]
  omega

theorem DbUnit.word_toNat (d : DbUnit) : d.word.toNat =
    d.event.code.toNat + 2 ^ 2 * d.pending.toNat + 2 ^ 3 * d.nextReq.toNat + 2 ^ 4 * d.btn.toNat +
      2 ^ 5 * d.prov.toNat + 2 ^ 8 * d.cnt.toNat := by
  simp only [DbUnit.word, toNat_append_sum, flagBit_toNat, toNat_reserved]
  omega

theorem DemoUnit.word_toNat (d : DemoUnit) : d.word.toNat = d.en.toNat + 2 ^ 16 * d.cnt.toNat := by
  simp only [DemoUnit.word, toNat_append_sum, flagBit_toNat, toNat_reserved]
  omega

theorem GenState.word_toNat (g : GenState) : g.word.toNat =
    g.cnt.toNat + 2 ^ 8 * g.mask.toNat + 2 ^ 12 * g.phase.toNat + 2 ^ 16 * g.fadeCnt.toNat := by
  simp only [GenState.word, toNat_append_sum, toNat_reserved]
  omega

/-- Every parameter of INFO fits its 8 bits (00_scope.md R8). -/
theorem infoWord_toNat {p : Params} (h : p.Ok) :
    (infoWord p).toNat = p.n + 2 ^ 8 * p.nSlots + 2 ^ 16 * p.nTuned + 2 ^ 24 * p.peak := by
  obtain ⟨-, hn, -, hslots, -, htuned, -, -, hpeak, -⟩ := h
  simp only [infoWord, toNat_append_sum, BitVec.toNat_ofNat]
  omega

/-- The tick counts fit their 8 bits, the derived one since it is below LONG_TICKS (00_scope.md R8). -/
theorem dbParamWord_toNat {p : Params} (h : p.Ok) :
    (dbParamWord p).toNat = p.shortTicks + 2 ^ 8 * p.midTicks + 2 ^ 16 * p.longTicks := by
  obtain ⟨-, -, -, -, -, -, -, -, -, -, -, hgap, hlong, -⟩ := h
  obtain ⟨hshort, hmid⟩ := Params.ticks_ordered hgap
  simp only [dbParamWord, toNat_append_sum, BitVec.toNat_ofNat, toNat_reserved]
  omega

theorem demoParamWord_toNat {p : Params} (h : p.Ok) : (demoParamWord p).toNat = p.demoTicks := by
  obtain ⟨-, -, -, -, -, -, -, -, -, -, -, -, -, -, hdemo, -⟩ := h
  simp only [demoParamWord, toNat_append_sum, BitVec.toNat_ofNat, toNat_reserved]
  omega

theorem State.busRead_groupMask (s : State) (g : Fin 3) :
    s.busRead (BitVec.ofNat 9 (0x040 + 4 * g)) = s.groupMasks[g] := by
  rw [State.busRead, regAt_groupMask, State.readReg]

theorem State.busRead_palette (s : State) (k : Fin 8) :
    (s.busRead (BitVec.ofNat 9 (0x060 + 4 * k))).toNat = s.palette[k].toNat := by
  rw [State.busRead, regAt_palette]
  exact BitVec.toNat_setWidth_of_le (by decide)

theorem State.busRead_slotCfg (s : State) {k : Nat} (hk : k < 32) :
    (s.busRead (BitVec.ofNat 9 (0x080 + 4 * k))).toNat =
      if k < s.params.nSlots then (s.slotCfg.getD k 0).toNat else 0 := by
  rw [State.busRead, regAt_slotCfg k hk]
  exact apply_ite BitVec.toNat _ _ _

theorem State.busRead_reserved (s : State) {a : Addr} (ha : a.toNat % 4 = 0)
    (hr : a = 0x03C ∨ (0x04C ≤ a.toNat ∧ a.toNat ≤ 0x05C) ∨ 0x180 ≤ a.toNat) : s.busRead a = 0 := by
  rw [State.busRead, regAt_reserved ha hr]
  rfl

/-- Settles O38: the read's step, then the layout register by register. -/
theorem readsHaveNoSideEffect : Obligations.ReadsHaveNoSideEffect := by
  refine ⟨fun s a rest => step_read, fun s => ?_⟩
  intro word pstat cause event
  have hpstat : s.pstat.code.toNat = pstat := s.pstat.code_toNat
  have hcause : s.err.cause.code.toNat = cause := s.err.cause.code_toNat
  have hevent : s.db.event.code.toNat = event := s.db.event.code_toNat
  have hbyte (b : Byte) : (b.setWidth 32).toNat = b.toNat := BitVec.toNat_setWidth_of_le (by decide)
  have hcolor (c : Color) : (c.setWidth 32).toNat = c.toNat := BitVec.toNat_setWidth_of_le (by decide)
  exact
    ⟨hpstat ▸ s.statusWord_toNat, hcause ▸ s.err.word_toNat, rfl, rfl, hcolor _, rfl, hbyte _,
      hevent ▸ s.db.word_toNat, s.demo.word_toNat, hbyte _, s.gen.word_toNat, hcolor _,
      fun hp => ⟨infoWord_toNat hp, dbParamWord_toNat hp, demoParamWord_toNat hp⟩,
      fun g => congrArg BitVec.toNat (s.busRead_groupMask g), s.busRead_palette, fun _ => s.busRead_slotCfg,
      fun _ => s.busRead_reserved⟩

/-! ### What a host write leaves (20_memory.md R82, R88) -/

/-- `t` has the units of `s` other than the colour buffer's, and its buffer too if a frame is in flight in `s`. It is
what a host write leaves unless it acknowledges, sets DEMO_CTRL or starts a frame. -/
structure HostFrame (s t : State) : Prop where
  params : t.params = s.params
  tx : t.tx = s.tx
  db : t.db = s.db
  demo : t.demo = s.demo
  frozen : s.tx.busy = true → t.buf = s.buf

section
variable {s t body : State} {i : Instr} {w : Word}

/-- A generator's frame, for one that runs in an idle block. -/
theorem GenFrame.hostFrame (h : GenFrame s t) (hi : s.tx.busy = false) : HostFrame s t := by
  unfold GenFrame at h
  rw [h]
  exact ⟨rfl, rfl, rfl, rfl, fun hb => absurd (hi.symm.trans hb) (by decide)⟩

theorem HostFrame.raise (s : State) (c : Cause) (info : Word) : HostFrame s (s.raise c info) :=
  ⟨rfl, rfl, rfl, rfl, fun _ => rfl⟩

theorem HostFrame.markDirty (h : HostFrame s t) : HostFrame s t.markDirty := { h with }

theorem HostFrame.recordStatus (h : HostFrame s t) (r : PStatus) : HostFrame s (t.recordStatus r) := { h with }

theorem unlessBusy_cases (h : unlessBusy i s body = .next t) :
    (s.tx.busy = true ∧ t = s.raise .busy (encode i)) ∨ (s.tx.busy = false ∧ t = body) := by
  cases hb : s.tx.busy with
  | false => exact .inr ⟨rfl, by cases (unlessBusy_idle hb).symm.trans h; rfl⟩
  | true => exact .inl ⟨rfl, by cases (unlessBusy_busy hb).symm.trans h; rfl⟩

/-- A command has a host write's frame if what it does in an idle block has. -/
theorem unlessBusy_hostFrame (h : unlessBusy i s body = .next t) (hf : s.tx.busy = false → HostFrame s body) :
    HostFrame s t := by
  rcases unlessBusy_cases h with ⟨-, rfl⟩ | ⟨hi, rfl⟩
  · exact .raise s _ _
  · exact hf hi

/-- A buffer command: what it does in an idle block has a generator's frame, but for DIRTY. -/
theorem unlessBusy_markDirty_hostFrame (h : unlessBusy i s body.markDirty = .next t) (hf : GenFrame s body) :
    HostFrame s t :=
  unlessBusy_hostFrame h fun hi => (hf.hostFrame hi).markDirty

theorem execFillRange_hostFrame {lo hi : Nat} (h : execFillRange lo hi s = .next t) : HostFrame s t :=
  unlessBusy_hostFrame h fun hidle => by
    split
    · exact .raise s _ _
    · exact ((GenFrame.paint s _).hostFrame hidle).markDirty

theorem execSelect_hostFrame {slot : Nat} (h : execSelect slot s = .next t) : HostFrame s t :=
  unlessBusy_hostFrame h fun _ => by
    split
    · exact .raise s _ _
    · exact ⟨rfl, rfl, rfl, rfl, fun _ => rfl⟩

theorem execStep_hostFrame (h : execStep s = .next t) : HostFrame s t :=
  unlessBusy_hostFrame h fun hidle => by
    split
    · exact .raise s _ _
    · exact (s.generate_frame.hostFrame hidle).recordStatus _

/-- Every command but TRANSMIT. -/
theorem exec_hostFrame (hne : i ≠ .transmit) (h : exec i s = .next t) : HostFrame s t := by
  cases i with
  | nop =>
    cases h
    exact ⟨rfl, rfl, rfl, rfl, fun _ => rfl⟩
  | fillAll => exact unlessBusy_markDirty_hostFrame h (.paint s _)
  | fillRange lo hi => exact execFillRange_hostFrame h
  | fillMask => exact unlessBusy_markDirty_hostFrame h (.paint s _)
  | rotate k => exact unlessBusy_markDirty_hostFrame h (.rotate s k)
  | halve => exact unlessBusy_markDirty_hostFrame h (.halve s)
  | rainbow => exact unlessBusy_markDirty_hostFrame h (.paint s _)
  | randomFill => exact unlessBusy_markDirty_hostFrame h (.randomFill s)
  | select slot => exact execSelect_hostFrame h
  | fadeStart => exact unlessBusy_hostFrame h fun _ => ⟨rfl, rfl, rfl, rfl, fun _ => rfl⟩
  | step => exact execStep_hostFrame h
  | transmit => exact absurd rfl hne

/-- TRANSMIT is rejected, or writes DIRTY and the transmitter only (41_transmitter.md R171). -/
theorem exec_transmit_frame (h : exec .transmit s = .next t) :
    HostFrame s t ∨ (s.tx.busy = false ∧ t = { s with dirty := t.dirty, tx := t.tx }) := by
  rcases unlessBusy_cases h with ⟨-, rfl⟩ | ⟨hi, rfl⟩
  · exact .inl (.raise s _ _)
  · exact .inr ⟨hi, rfl⟩

/-! ### A word that decodes is its command's encoding (30_encoding.md R113) -/

theorem encode_of_decodePlain {op : Byte} {j : Instr} (h : decodePlain w j = .ok i) (hop : opField w = op)
    (hj : encode j = cmdWord op 0 0) : encode i = w := by
  unfold decodePlain at h
  split at h
  · cases h
  · next hz =>
    split at h
    · cases h
    · next hab =>
      cases h
      obtain ⟨ha, hb⟩ := not_or.1 hab
      have hw := cmdWord_fields w (not_not.1 hz)
      rw [hop, not_not.1 ha, not_not.1 hb] at hw
      exact hj.trans hw

theorem encode_of_decodeOne {op : Byte} {j : Nat → Instr} (h : decodeOne w j = .ok i) (hop : opField w = op)
    (hj : ∀ a, encode (j a) = cmdWord op a 0) : encode i = w := by
  unfold decodeOne at h
  split at h
  · cases h
  · next hz =>
    split at h
    · cases h
    · next hb =>
      cases h
      have hw := cmdWord_fields w (not_not.1 hz)
      rw [hop, not_not.1 hb] at hw
      exact (hj _).trans hw

theorem encode_of_decodeTwo {op : Byte} {j : Nat → Nat → Instr} (h : decodeTwo w j = .ok i) (hop : opField w = op)
    (hj : ∀ a b, encode (j a b) = cmdWord op a b) : encode i = w := by
  unfold decodeTwo at h
  split at h
  · cases h
  · next hz =>
    cases h
    have hw := cmdWord_fields w (not_not.1 hz)
    rw [hop] at hw
    exact (hj _ _).trans hw

theorem encode_of_decode (h : decode w = .ok i) : encode i = w := by
  unfold decode at h
  rcases ite_eq_iff.1 h with ⟨hop, h⟩ | ⟨-, h⟩
  · exact encode_of_decodePlain h hop rfl
  rcases ite_eq_iff.1 h with ⟨hop, h⟩ | ⟨-, h⟩
  · exact encode_of_decodePlain h hop rfl
  rcases ite_eq_iff.1 h with ⟨hop, h⟩ | ⟨-, h⟩
  · exact encode_of_decodeTwo h hop fun _ _ => rfl
  rcases ite_eq_iff.1 h with ⟨hop, h⟩ | ⟨-, h⟩
  · exact encode_of_decodePlain h hop rfl
  rcases ite_eq_iff.1 h with ⟨hop, h⟩ | ⟨-, h⟩
  · exact encode_of_decodeOne h hop fun _ => rfl
  rcases ite_eq_iff.1 h with ⟨hop, h⟩ | ⟨-, h⟩
  · exact encode_of_decodePlain h hop rfl
  rcases ite_eq_iff.1 h with ⟨hop, h⟩ | ⟨-, h⟩
  · exact encode_of_decodePlain h hop rfl
  rcases ite_eq_iff.1 h with ⟨hop, h⟩ | ⟨-, h⟩
  · exact encode_of_decodePlain h hop rfl
  rcases ite_eq_iff.1 h with ⟨hop, h⟩ | ⟨-, h⟩
  · exact encode_of_decodeOne h hop fun _ => rfl
  rcases ite_eq_iff.1 h with ⟨hop, h⟩ | ⟨-, h⟩
  · exact encode_of_decodePlain h hop rfl
  rcases ite_eq_iff.1 h with ⟨hop, h⟩ | ⟨-, h⟩
  · exact encode_of_decodePlain h hop rfl
  rcases ite_eq_iff.1 h with ⟨hop, h⟩ | ⟨-, h⟩
  · exact encode_of_decodePlain h hop rfl
  cases h

/-! ### Writes register by register -/

/-- A word written to CMD has a host write's frame, unless it is TRANSMIT's and accepted. -/
theorem execute_frame (h : execute w s = .next t) :
    HostFrame s t ∨ (w = 0x20000000 ∧ s.tx.busy = false ∧ t = { s with dirty := t.dirty, tx := t.tx }) := by
  unfold execute at h
  split at h
  · next i hi =>
    by_cases hx : i = .transmit
    · subst hx
      rcases exec_transmit_frame h with hf | hacc
      · exact .inl hf
      · exact .inr ⟨(encode_of_decode hi).symm.trans (by decide), hacc⟩
    · exact .inl (exec_hostFrame hx h)
  · cases h
    exact .inl (.raise s _ _)

theorem State.bufWrite_hostFrame (s : State) (a : Addr) (k : Nat) (v : Word) : HostFrame s (s.bufWrite a k v) := by
  unfold State.bufWrite
  split
  · exact .raise s _ _
  · next hidle =>
    split
    · exact .raise s _ _
    · exact ⟨rfl, rfl, rfl, rfl, fun hb => absurd hb hidle⟩

/-- A register of the map has one aligned address. -/
theorem eq_of_regAt {a b : Addr} {r : Reg} (ha : a.toNat % 4 = 0) (hr : regAt a = r) (hb : b.toNat % 4 = 0)
    (hbr : regAt b = r) (hne : r ≠ .reserved) : a = b :=
  regAt_inj ha hb (hr.trans hbr.symm) fun h => hne (hr.symm.trans h)

/-- What a host write can do (40_host_access.md R141, 20_memory.md R82): it leaves a host write's frame, or it is an
accepted TRANSMIT, an acknowledge or a DEMO_CTRL write. -/
theorem hostWrite_cases {a : Addr} {v : Word} (h : hostWrite a v s = .next t) :
    HostFrame s t ∨
    (a = 0x010 ∧ v = 0x20000000 ∧ s.tx.busy = false ∧ t = { s with dirty := t.dirty, tx := t.tx }) ∨
    (a = 0x020 ∧ t = s.ackWrite v) ∨ (a = 0x024 ∧ t = s.demoWrite v) := by
  obtain ⟨ha, h⟩ := writeReg_of_hostWrite h
  cases hr : regAt a <;> rw [hr] at h
  case cmd =>
    rcases execute_frame h with hf | hacc
    · exact .inl hf
    · exact .inr (.inl ⟨eq_of_regAt ha hr (by decide) (by decide) nofun, hacc⟩)
  case dbStatus =>
    cases h
    exact .inr (.inr (.inl ⟨eq_of_regAt ha hr (by decide) (by decide) nofun, rfl⟩))
  case demoCtrl =>
    cases h
    exact .inr (.inr (.inr ⟨eq_of_regAt ha hr (by decide) (by decide) nofun, rfl⟩))
  case buf k =>
    cases h
    exact .inl (s.bufWrite_hostFrame a k v)
  case slotCfg k =>
    cases h
    left
    split <;> exact ⟨rfl, rfl, rfl, rfl, fun _ => rfl⟩
  all_goals
    cases h
    exact .inl ⟨rfl, rfl, rfl, rfl, fun _ => rfl⟩

/-! ### What each agent's step leaves (20_memory.md R82) -/

theorem hostRead_frame {a : Addr} (h : hostRead a s = .next t) : t = { s with rdata := t.rdata } := by
  unfold hostRead at h
  split at h <;> cases h
  rfl

/-- A turn of the TX engine writes the transmitter only (41_transmitter.md R176, R177). -/
theorem txTurn_frame (h : txTurn s = .next t) : t = { s with tx := t.tx } := by
  rcases txTurn_cases h with ⟨-, rfl⟩ | ⟨-, -, rfl⟩ | ⟨-, -, b, -, rfl⟩ <;> rfl

theorem DemoUnit.tick_en (d : DemoUnit) (demoTicks : Nat) : (d.tick demoTicks).1.en = d.en := by
  unfold DemoUnit.tick
  split
  · split <;> rfl
  · rfl

/-- A tick writes the debounce unit and DEMO_CNT only (44_debounce_demo.md R292, R302). -/
theorem tickStep_frame {p : Bool} (h : tickStep p s = .next t) :
    t = { s with db := t.db, demo := t.demo } ∧ t.demo.en = s.demo.en := by
  obtain ⟨d, -, rfl⟩ := fsm_of_tickStep h
  exact ⟨rfl, s.demo.tick_en _⟩

/-- No host write changes the parameters, nor the buffer while a frame is in flight. -/
theorem hostWrite_keeps {a : Addr} {v : Word} (h : hostWrite a v s = .next t) :
    t.params = s.params ∧ (s.tx.busy = true → t.buf = s.buf) := by
  rcases hostWrite_cases h with hf | ⟨-, -, -, ht⟩ | ⟨-, rfl⟩ | ⟨-, rfl⟩
  · exact ⟨hf.params, hf.frozen⟩
  · rw [ht]
    exact ⟨rfl, fun _ => rfl⟩
  · exact ⟨rfl, fun _ => rfl⟩
  · exact ⟨rfl, fun _ => rfl⟩

/-- No agent writes the parameters (log entry 1), and only the reset writes the buffer of a frame in flight
(20_memory.md R88). -/
theorem perform_keeps {e : Input} (h : perform e s = .next t) :
    t.params = s.params ∧ (e ≠ .rst → s.tx.busy = true → t.buf = s.buf) := by
  cases e with
  | read a =>
    rw [hostRead_frame h]
    exact ⟨rfl, fun _ _ => rfl⟩
  | write a v => exact ⟨(hostWrite_keeps h).1, fun _ => (hostWrite_keeps h).2⟩
  | tick p =>
    rw [(tickStep_frame h).1]
    exact ⟨rfl, fun _ _ => rfl⟩
  | txTurn =>
    rw [txTurn_frame h]
    exact ⟨rfl, fun _ _ => rfl⟩
  | rst =>
    cases h
    exact ⟨rfl, fun hne => absurd rfl hne⟩

theorem step_keeps (h : step s = .next t) :
    t.params = s.params ∧ (s.inputs.head? ≠ some .rst → s.tx.busy = true → t.buf = s.buf) := by
  cases hin : s.inputs with
  | nil =>
    rw [step_nil hin] at h
    rw [txTurn_frame h]
    exact ⟨rfl, fun _ _ => rfl⟩
  | cons e rest =>
    rw [step_cons hin] at h
    obtain ⟨hparams, hbuf⟩ := perform_keeps h
    exact ⟨hparams, fun he => hbuf fun hr => he (congrArg some hr)⟩

end

/-- Settles O49: the frame's bits depend on N and the buffer only. -/
theorem bufferFrozenInFlight : Obligations.BufferFrozenInFlight := by
  intro s t hb he h
  obtain ⟨hparams, hfrozen⟩ := step_keeps h
  have hbuf := hfrozen he hb
  exact ⟨hbuf, State.frameBits_congr (congrArg Params.n hparams) hbuf⟩

/-- Settles O57: the frame of each kind of input. -/
theorem oneWriterPerField : Obligations.OneWriterPerField := by
  intro s t h
  refine ⟨(step_keeps h).1, fun p rest hin => ?_, fun rest hin => ?_, fun hin => ?_, fun a rest hin => ?_,
    fun a v rest hin => ?_⟩
  · rw [step_cons hin] at h
    exact tickStep_frame h
  · rw [step_cons hin] at h
    exact txTurn_frame h
  · rw [step_nil hin] at h
    exact txTurn_frame h
  · rw [step_cons hin] at h
    exact hostRead_frame h
  · rw [step_cons hin] at h
    rcases hostWrite_cases h with hf | ⟨ha, hv, hidle, ht⟩ | ⟨rfl, rfl⟩ | ⟨rfl, rfl⟩
    · exact ⟨fun _ => hf.db, fun _ => hf.demo, .inl hf.tx⟩
    · rw [ht]
      exact ⟨fun _ => rfl, fun _ => rfl, .inr ⟨ha, hv, hidle⟩⟩
    · exact ⟨fun hne => absurd rfl hne, fun _ => rfl, .inl rfl⟩
    · exact ⟨fun _ => rfl, fun hne => absurd rfl hne, .inl rfl⟩

end Sys2Proof.Machine

namespace Sys2Proof.Machine

/-! # Encoding (30_encoding.md) -/

section
variable {w m v : Word} {i : Instr} {e : DecodeError}

/-! ### Decoding inverts encoding (30_encoding.md R112, R126) -/

theorem decodePlain_cmdWord (op : Byte) (i : Instr) : decodePlain (cmdWord op 0 0) i = .ok i := by
  simp [decodePlain]

theorem decodeOne_cmdWord (op : Byte) (a : Nat) (i : Nat → Instr) :
    decodeOne (cmdWord op a 0) i = .ok (i (a % 256)) := by
  simp [decodeOne]

theorem decodeTwo_cmdWord (op : Byte) (a b : Nat) (i : Nat → Nat → Instr) :
    decodeTwo (cmdWord op a b) i = .ok (i (a % 256) (b % 256)) := by
  simp [decodeTwo]

theorem fitsField_iff_mod_eq {a : Nat} : fitsField a = true ↔ a % 256 = a := by
  simp only [fitsField, decide_eq_true_eq]
  omega

/-- The word of a command holds its operands modulo 256, so it decodes to the command exactly when they fit. -/
theorem decode_encode_iff (i : Instr) : decode (encode i) = .ok i ↔ i.wellFormed = true := by
  cases i with
  | fillRange lo hi => simp [decode, encode, decodeTwo_cmdWord, Instr.wellFormed, fitsField_iff_mod_eq]
  | rotate k => simp [decode, encode, decodeOne_cmdWord, Instr.wellFormed, fitsField_iff_mod_eq]
  | select slot => simp [decode, encode, decodeOne_cmdWord, Instr.wellFormed, fitsField_iff_mod_eq]
  | _ => simp [decode, encode, decodePlain_cmdWord, Instr.wellFormed]

/-- What decoding answers: the command whose word it is, operands fitting. -/
theorem decode_eq_ok_iff : decode w = .ok i ↔ encode i = w ∧ i.wellFormed = true := by
  constructor
  · intro h
    obtain rfl := encode_of_decode h
    exact ⟨rfl, (decode_encode_iff i).1 h⟩
  · rintro ⟨rfl, hi⟩
    exact (decode_encode_iff i).2 hi

/-! ### The opcode map (30_encoding.md R112, R113) -/

theorem encode_matches_row (i : Instr) : encode i &&& (rowOf i).mask = (rowOf i).matchBits := by
  cases i with
  | nop => exact Laws.RowMatch.nop
  | fillAll => exact Laws.RowMatch.fillAll
  | fillRange lo hi => exact Laws.RowMatch.fillRange lo hi
  | fillMask => exact Laws.RowMatch.fillMask
  | rotate k => exact Laws.RowMatch.rotate k
  | halve => exact Laws.RowMatch.halve
  | rainbow => exact Laws.RowMatch.rainbow
  | randomFill => exact Laws.RowMatch.randomFill
  | select slot => exact Laws.RowMatch.select slot
  | fadeStart => exact Laws.RowMatch.fadeStart
  | step => exact Laws.RowMatch.step
  | transmit => exact Laws.RowMatch.transmit

theorem rowOf_mem_opcodeRows (i : Instr) : rowOf i ∈ opcodeRows := by
  cases i <;> simp [opcodeRows, rowOf]

theorem exists_rowOf_of_mem {r : OpcodeRow} (h : r ∈ opcodeRows) : ∃ i, rowOf i = r := by
  have hmap : opcodeRows = [.nop, .fillAll, .fillRange 0 0, .fillMask, .rotate 0, .halve, .rainbow, .randomFill,
    .select 0, .fadeStart, .step, .transmit].map rowOf := rfl
  obtain ⟨i, -, hi⟩ := List.mem_map.1 (hmap ▸ h)
  exact ⟨i, hi⟩

/-- A match holds field by field. -/
theorem fields_of_matches (h : w &&& m = v) :
    opField w &&& opField m = opField v ∧ aField w &&& aField m = aField v ∧
    bField w &&& bField m = bField v ∧ zField w &&& zField m = zField v := by
  subst h
  simp only [opField, aField, bField, zField, BitVec.extractLsb'_and, and_self]

theorem eq_of_and_allOnes_eq {n : Nat} {x y : BitVec n} (h : x &&& BitVec.allOnes n = y) : x = y :=
  BitVec.and_allOnes.symm.trans h

/-- The mask of a row with one operand leaves A free. -/
theorem cmdWord_of_matches_allButA {op : Byte} (h : w &&& 0xFF00FFFF = cmdWord op 0 0) :
    cmdWord op (aField w).toNat 0 = w := by
  obtain ⟨hop, -, hb, hz⟩ := fields_of_matches h
  rw [opField_cmdWord] at hop
  rw [bField_cmdWord] at hb
  rw [zField_cmdWord] at hz
  have hw := cmdWord_fields w (eq_of_and_allOnes_eq hz)
  rwa [eq_of_and_allOnes_eq hb, eq_of_and_allOnes_eq hop] at hw

/-- The mask of a row with two operands leaves A and B free. -/
theorem cmdWord_of_matches_opAndZ {op : Byte} (h : w &&& 0xFF0000FF = cmdWord op 0 0) :
    cmdWord op (aField w).toNat (bField w).toNat = w := by
  obtain ⟨hop, -, -, hz⟩ := fields_of_matches h
  rw [opField_cmdWord] at hop
  rw [zField_cmdWord] at hz
  have hw := cmdWord_fields w (eq_of_and_allOnes_eq hz)
  rwa [eq_of_and_allOnes_eq hop] at hw

/-- The command is the row's, with the fields A and B as its operands. -/
theorem decodes_of_matches_row (h : w &&& (rowOf i).mask = (rowOf i).matchBits) : ∃ j, decode w = .ok j := by
  cases i with
  | fillRange lo hi =>
    exact ⟨.fillRange (aField w).toNat (bField w).toNat, decode_eq_ok_iff.2 ⟨cmdWord_of_matches_opAndZ h,
      by simp [Instr.wellFormed, fitsField_toNat]⟩⟩
  | rotate k => exact ⟨.rotate (aField w).toNat, decode_eq_ok_iff.2 ⟨cmdWord_of_matches_allButA h, fitsField_toNat _⟩⟩
  | select slot =>
    exact ⟨.select (aField w).toNat, decode_eq_ok_iff.2 ⟨cmdWord_of_matches_allButA h, fitsField_toNat _⟩⟩
  | _ =>
    obtain rfl := eq_of_and_allOnes_eq h
    exact ⟨_, rfl⟩

/-- A word decodes exactly when it matches the row of some command. -/
theorem decodes_iff_matches_row : (∃ i, decode w = .ok i) ↔ ∃ r ∈ opcodeRows, w &&& r.mask = r.matchBits := by
  constructor
  · rintro ⟨i, hi⟩
    exact ⟨rowOf i, rowOf_mem_opcodeRows i, encode_of_decode hi ▸ encode_matches_row i⟩
  · rintro ⟨r, hr, hmatch⟩
    obtain ⟨i, rfl⟩ := exists_rowOf_of_mem hr
    exact decodes_of_matches_row hmatch

/-! ### Illegal words (30_encoding.md R113, R114) -/

theorem refused_iff_not_decodes : (∃ e, decode w = .error e) ↔ ¬ ∃ i, decode w = .ok i := by
  cases decode w <;> simp

theorem execute_of_decode_error (h : decode w = .error e) (s : State) :
    execute w s = .next (s.raise .illegal w) := by
  unfold execute
  rw [h]

theorem decodePlain_refuses_iff :
    (∃ e, decodePlain w i = .error e) ↔ aField w ≠ 0 ∨ bField w ≠ 0 ∨ zField w ≠ 0 := by
  unfold decodePlain
  split_ifs with hz hab
  · exact iff_of_true ⟨_, rfl⟩ (.inr (.inr hz))
  · exact iff_of_true ⟨_, rfl⟩ (or_assoc.1 (.inl hab))
  · exact iff_of_false nofun fun h => (or_assoc.2 h).elim hab hz

theorem decodeOne_refuses_iff {j : Nat → Instr} :
    (∃ e, decodeOne w j = .error e) ↔ bField w ≠ 0 ∨ zField w ≠ 0 := by
  unfold decodeOne
  split_ifs with hz hb
  · exact iff_of_true ⟨_, rfl⟩ (.inr hz)
  · exact iff_of_true ⟨_, rfl⟩ (.inl hb)
  · exact iff_of_false nofun fun h => h.elim hb hz

theorem decodeTwo_refuses_iff {j : Nat → Nat → Instr} : (∃ e, decodeTwo w j = .error e) ↔ zField w ≠ 0 := by
  unfold decodeTwo
  split_ifs with hz
  · exact iff_of_true ⟨_, rfl⟩ hz
  · exact iff_of_false nofun hz

/-- The opcodes of 30_encoding.md R112. -/
def listedOps : List Byte := [0x00, 0x01, 0x02, 0x03, 0x04, 0x05, 0x06, 0x07, 0x10, 0x11, 0x12, 0x20]

/-- The opcodes whose A is not marked 0 in 30_encoding.md R112. -/
def opsUsingA : List Byte := [0x02, 0x04, 0x10]

/-- The opcode whose B is not marked 0 in 30_encoding.md R112. -/
def opsUsingB : List Byte := [0x02]

theorem mem_listedOps {op : Byte} : op ∈ listedOps ↔
    op = 0x00 ∨ op = 0x01 ∨ op = 0x02 ∨ op = 0x03 ∨ op = 0x04 ∨ op = 0x05 ∨ op = 0x06 ∨ op = 0x07 ∨ op = 0x10 ∨
      op = 0x11 ∨ op = 0x12 ∨ op = 0x20 := by
  simp only [listedOps, List.mem_cons, List.not_mem_nil, or_false]

theorem decode_of_unlisted (h : opField w ∉ listedOps) : decode w = .error .unlistedOpcode := by
  simp only [mem_listedOps, not_or] at h
  simp only [decode, h, if_false]

/-- Each listed opcode runs the decoder of its row's shape, which refuses the row's fields marked 0 and Z. -/
theorem decode_refuses_iff : (∃ e, decode w = .error e) ↔
    opField w ∉ listedOps ∨ (opField w ∉ opsUsingA ∧ aField w ≠ 0) ∨ (opField w ∉ opsUsingB ∧ bField w ≠ 0) ∨
      zField w ≠ 0 := by
  by_cases hop : opField w ∈ listedOps
  · unfold decode
    rcases mem_listedOps.1 hop with h | h | h | h | h | h | h | h | h | h | h | h <;>
      simp [h, listedOps, opsUsingA, opsUsingB, decodePlain_refuses_iff, decodeOne_refuses_iff, decodeTwo_refuses_iff]
  · exact iff_of_true ⟨_, decode_of_unlisted hop⟩ (.inl hop)

theorem toNat_le_of_mem_listedOps : ∀ op ∈ listedOps, op.toNat ≤ 0x20 := by decide

/-- Every opcode above 0x20 is unlisted, and 21 of the others are. -/
theorem length_unlistedOps : ((List.range 256).filter fun op => BitVec.ofNat 8 op ∉ listedOps).length = 244 := by
  have hhigh : ∀ op ∈ List.range' 33 223, decide (BitVec.ofNat 8 op ∉ listedOps) = true := fun op hop => by
    have hrange := List.mem_range'_1.1 hop
    refine decide_eq_true fun hmem => ?_
    have hle := toNat_le_of_mem_listedOps _ hmem
    rw [BitVec.toNat_ofNat] at hle
    omega
  have hsplit : List.range 256 = List.range 33 ++ List.range' 33 223 := by
    rw [List.range_eq_range', List.range_eq_range', List.range'_append_1]
  rw [hsplit, List.filter_append, List.filter_eq_self.2 hhigh, List.length_append, List.length_range']
  rfl

end

/-- Settles O1: decoding answers a command exactly when the word is its encoding and its operands fit. -/
theorem decodeInvertsEncode : Obligations.DecodeInvertsEncode :=
  ⟨fun _ hi => decode_eq_ok_iff.2 ⟨rfl, hi⟩, fun _ _ => decode_eq_ok_iff.1⟩

/-- Settles O2: a word decodes to the row it matches, and a word that is refused is recorded. -/
theorem decodeFollowsTheMap : Obligations.DecodeFollowsTheMap := by
  intro w
  refine ⟨decodes_iff_matches_row, fun i hi => encode_of_decode hi ▸ encode_matches_row i, fun hnone s => ?_⟩
  have hrefused : ¬ ∃ i, decode w = .ok i :=
    mt decodes_iff_matches_row.1 fun ⟨r, hr, hmatch⟩ => hnone r hr hmatch
  obtain ⟨e, he⟩ := refused_iff_not_decodes.2 hrefused
  exact execute_of_decode_error he s

/-- Settles O3: the decoder refuses a word row by row, and the opcodes are counted. -/
theorem illegalInThreeCases : Obligations.IllegalInThreeCases :=
  ⟨fun _ => decode_refuses_iff, length_unlistedOps, by decide⟩

/-- Settles O4: each word is decoded. -/
theorem listedWordsDecode : Obligations.ListedWordsDecode :=
  ⟨rfl, rfl, rfl, rfl, rfl, rfl, rfl, rfl⟩

end Sys2Proof.Machine

namespace Sys2Proof.Machine

/-! # The host's bus writes (40_host_access.md) -/

/-! ### A write is its register's (20_memory.md R75, 40_host_access.md R141) -/

/-- An aligned write is a write to the register at its address. -/
theorem hostWrite_of_regAt {a : Addr} {r : Reg} (ha : a.toNat % 4 = 0) (hr : regAt a = r) (v : Word) (s : State) :
    hostWrite a v s = writeReg a v s r := by
  rw [hostWrite, if_pos ((aligned_iff a).2 ha), hr]

/-- The word at `base + 4 k` is aligned if its window's base is (20_memory.md R75). -/
theorem ofNat_add_mul_aligned {base : Nat} (hb : base % 4 = 0) (k : Nat) :
    (BitVec.ofNat 9 (base + 4 * k)).toNat % 4 = 0 := by
  rw [BitVec.toNat_ofNat]
  omega

theorem regAt_buf : ∀ i < 32, regAt (BitVec.ofNat 9 (0x100 + 4 * i)) = .buf i := by decide

/-- An aligned address in the SLOT_CFG window is the one of its slot. -/
theorem regAt_of_slotWindow {a : Addr} (ha : a.toNat % 4 = 0) (hlo : 0x080 ≤ a.toNat) (hhi : a.toNat < 0x100) :
    regAt a = .slotCfg ((a.toNat - 0x080) / 4) := by
  have haddr : BitVec.ofNat 9 (0x080 + 4 * ((a.toNat - 0x080) / 4)) = a := by
    rw [show 0x080 + 4 * ((a.toNat - 0x080) / 4) = 4 * (a.toNat / 4) by omega, ofNat_mul_div_of_aligned ha]
  exact (congrArg regAt haddr).symm.trans (regAt_slotCfg _ (by omega))

/-! ### Writes to CMD (40_host_access.md R146, R147) -/

theorem execute_of_decode {w : Word} {i : Instr} (h : decode w = .ok i) (s : State) : execute w s = exec i s := by
  unfold execute
  rw [h]

/-- NOP's opcode has one word that decodes, the zero word (30_encoding.md R112). -/
theorem decode_refuses_nonzero_nop {w : Word} (hop : opField w = 0x00) (hw : w ≠ 0) : ∃ e, decode w = .error e := by
  rw [decode, if_pos hop]
  refine decodePlain_refuses_iff.2 ?_
  by_contra hzero
  simp only [not_or, not_not] at hzero
  obtain ⟨ha, hb, hz⟩ := hzero
  have hfields := cmdWord_fields w hz
  rw [hop, ha, hb] at hfields
  exact hw hfields.symm

/-- Settles O5: the write at the head of the queue is executed, and its word decodes. -/
theorem stepRunsDecodedCommand : Obligations.StepRunsDecodedCommand := by
  intro s w rest i hin hi
  calc step s = hostWrite 0x010 w { s with inputs := rest } := step_cons hin
    _ = execute w { s with inputs := rest } := hostWrite_of_regAt (a := 0x010) (r := .cmd) (by decide) (by decide) w _
    _ = exec i { s with inputs := rest } := execute_of_decode hi _

/-- Settles O6: a word that NOP's opcode refuses is recorded. -/
theorem nopChangesNothing : Obligations.NopChangesNothing := by
  refine ⟨fun _ => rfl, fun s w hop hw => ?_⟩
  obtain ⟨e, he⟩ := decode_refuses_nonzero_nop hop hw
  exact execute_of_decode_error he s

/-! ### Acknowledge writes (40_host_access.md R145) -/

/-- Settles O55: each flag is cleared by its own bit. -/
theorem acknowledgeWrite : Obligations.AcknowledgeWrite := by
  intro s v
  have hwrite : hostWrite 0x020 v s = .next (s.ackWrite v) :=
    hostWrite_of_regAt (a := 0x020) (r := .dbStatus) (by decide) (by decide) v s
  refine ⟨s.ackWrite v, hwrite, rfl, fun h => ?_, fun h => ?_, fun h => ?_, fun h => ?_⟩ <;>
    simp [State.ackWrite, h, -BitVec.getLsbD_eq_getElem]

/-! ### Writes that are ignored (40_host_access.md R148) -/

/-- The registers whose every write is ignored. -/
def Reg.ignoresWrites : Reg → Bool
  | .info | .status | .errInfo | .nzCount | .genState | .genRcolor | .dbParam | .demoParam | .reserved => true
  | _ => false

theorem writeReg_ignored {r : Reg} (h : r.ignoresWrites = true) (a : Addr) (v : Word) (s : State) :
    writeReg a v s r = .next s := by
  cases r with
  | info | status | errInfo | nzCount | genState | genRcolor | dbParam | demoParam | reserved => rfl
  | _ => cases h

/-- The addresses of the read-only registers (20_memory.md R75). -/
theorem regAt_ignoresWrites : ∀ a ∈ ([0x000, 0x004, 0x00C, 0x01C, 0x02C, 0x030, 0x034, 0x038] : List Addr),
    (regAt a).ignoresWrites = true := by decide

theorem writeReg_absentSlot {s : State} {k : Nat} (h : s.params.nSlots ≤ k) (a : Addr) (v : Word) :
    writeReg a v s (.slotCfg k) = .next s := by
  rw [writeReg, if_neg (by omega)]

/-- Settles O41: the address is one of a register that ignores writes, or of a slot that the block does not have. -/
theorem writesWithNoEffect : Obligations.WritesWithNoEffect := by
  intro s v a ha hcases
  rw [hostWrite_of_regAt ha rfl]
  have hreserved (h : a = 0x03C ∨ (0x04C ≤ a.toNat ∧ a.toNat ≤ 0x05C) ∨ 0x180 ≤ a.toNat) :
      writeReg a v s (regAt a) = .next s := by
    rw [regAt_reserved ha h]
    exact writeReg_ignored rfl a v s
  rcases hcases with hro | hres | hres | hres | ⟨hlo, hhi, hslot⟩
  · exact writeReg_ignored (regAt_ignoresWrites a hro) a v s
  · exact hreserved (.inl hres)
  · exact hreserved (.inr (.inl hres))
  · exact hreserved (.inr (.inr hres))
  · rw [regAt_of_slotWindow ha hlo hhi]
    exact writeReg_absentSlot hslot a v

/-! ### The BUF window (40_host_access.md R142 to R144) -/

section
variable {s : State} {i : Nat}

theorem State.bufWrite_busy (hb : s.tx.busy = true) (a : Addr) (i : Nat) (v : Word) :
    s.bufWrite a i v = s.raise .busy (bufErrInfo a) := if_pos hb

theorem State.bufWrite_pastEnd (hb : s.tx.busy = false) (hi : s.params.n ≤ i) (a : Addr) (v : Word) :
    s.bufWrite a i v = s.raise .range (bufErrInfo a) := by
  rw [State.bufWrite, if_neg (by simp [hb]), if_pos hi]

theorem State.bufWrite_accepted (hb : s.tx.busy = false) (hi : i < s.params.n) (a : Addr) (v : Word) :
    s.bufWrite a i v = { s with buf := s.buf.set i (colorOf v), dirty := true } := by
  rw [State.bufWrite, if_neg (by simp [hb]), if_neg (by omega)]

/-- One entry of a stored table is set. -/
theorem getD_set_of_lt {α : Type} {l : List α} {k : Nat} (hk : k < l.length) (x d : α) (j : Nat) :
    (l.set k x).getD j d = if j = k then x else l.getD j d := by
  by_cases hj : j = k
  · simp [hj, hk]
  · simp [hj, Ne.symm hj]

/-- One LED of the buffer is set. -/
theorem State.led_setLed (hi : i < s.buf.length) (c : Color) (d : Bool) (j : Nat) :
    ({ s with buf := s.buf.set i c, dirty := d } : State).led j = if j = i then c else s.led j :=
  getD_set_of_lt hi c 0 j

/-- What ERR_INFO gets from a rejected BUF write (10_state.md R26). -/
theorem bufErrInfo_bufAddr : ∀ i < 32,
    bufErrInfo (BitVec.ofNat 9 (0x100 + 4 * i)) = 0xFF000000 + BitVec.ofNat 32 (0x100 + 4 * i) := by decide

/-- A write to the window is one to its LED. -/
theorem hostWrite_buf (hi : i < 32) (v : Word) (s : State) :
    hostWrite (BitVec.ofNat 9 (0x100 + 4 * i)) v s = .next (s.bufWrite (BitVec.ofNat 9 (0x100 + 4 * i)) i v) :=
  hostWrite_of_regAt (ofNat_add_mul_aligned (by decide) i) (regAt_buf i hi) v s

theorem State.busRead_buf (hi : i < 32) (s : State) :
    s.busRead (BitVec.ofNat 9 (0x100 + 4 * i)) = if i < s.params.n then (s.led i).setWidth 32 else 0 := by
  rw [State.busRead, regAt_buf i hi, State.readReg]

end

/-- Settles O42: the write's three cases, then the read. -/
theorem bufWindow : Obligations.BufWindow := by
  intro s v i hi hlen a info
  have hinfo : bufErrInfo a = info := bufErrInfo_bufAddr i hi
  have hwrite : hostWrite a v s = .next (s.bufWrite a i v) := hostWrite_buf hi v s
  refine ⟨fun hb => ?_, fun hb hn => ?_, fun hb hn => ?_, State.busRead_buf hi s⟩
  · rw [hwrite, State.bufWrite_busy hb, hinfo]
  · rw [hwrite, State.bufWrite_pastEnd hb hn, hinfo]
  · rw [State.bufWrite_accepted hb hn] at hwrite
    exact ⟨_, hwrite, rfl, (List.length_set ..).trans hlen, fun j _ => State.led_setLed (hlen ▸ hn) _ _ j⟩

/-! ### The bits that a register keeps (40_host_access.md R141) -/

/-- A field at bit 0 of a word, read back as a word. -/
theorem setWidth_lowField (n : Nat) (v : Word) :
    (v.extractLsb' 0 n).setWidth 32 = v &&& BitVec.ofNat 32 (2 ^ n - 1) := by
  apply BitVec.eq_of_getLsbD_eq
  intro i hi
  simp only [BitVec.getLsbD_setWidth, BitVec.getLsbD_extractLsb', BitVec.getLsbD_and, BitVec.getLsbD_ofNat,
    Nat.testBit_two_pow_sub_one, hi, decide_true, Bool.true_and, Nat.zero_add]
  exact Bool.and_comm _ _

/-- DEMO_CTRL after its write (44_debounce_demo.md R303). -/
theorem DemoUnit.word_written (v : Word) : DemoUnit.word ⟨v.getLsbD 0, 0⟩ = v &&& 0x00000001 := by
  apply BitVec.eq_of_toNat_eq
  rw [DemoUnit.word_toNat, BitVec.toNat_and, getLsbD_eq_decide]
  simp only [Nat.pow_zero, Nat.div_one]
  rcases Nat.mod_two_eq_zero_or_one v.toNat with h | h <;> simp [h]

/-- DIRTY is bit 1 of STATUS, above TX_BUSY (10_state.md R24). -/
theorem or_dirtyBit (x : BitVec 30) (dirty busy : Bool) :
    x ++ flagBit dirty ++ flagBit busy ||| 0x00000002 = x ++ flagBit true ++ flagBit busy := by
  have hbit : (0x00000002 : Word) = 0#30 ++ flagBit true ++ flagBit false := by decide
  have hset : flagBit dirty ||| flagBit true = flagBit true := by cases dirty <;> rfl
  have hkeep : flagBit busy ||| flagBit false = flagBit busy := by cases busy <;> rfl
  rw [hbit, BitVec.or_append, BitVec.or_append, BitVec.or_zero, hset, hkeep]

theorem State.statusWord_setDirty (s : State) (b : List Color) :
    ({ s with buf := b, dirty := true } : State).statusWord = s.statusWord ||| 0x00000002 :=
  (or_dirtyBit _ s.dirty s.tx.busy).symm

/-- The addresses of the group masks (20_memory.md R75). -/
theorem exists_groupMask_addr : ∀ a ∈ ([0x040, 0x044, 0x048] : List Addr),
    ∃ g : Fin 3, a = BitVec.ofNat 9 (0x040 + 4 * g) := by decide

/-! ### Reading back (40_host_access.md R141, R142) -/

/-- A write of `v` at `a` leaves the block so that the register there reads as `kept` and every other as before, but
STATUS after a write to the BUF window, where DIRTY is 1. -/
def State.ReadsBack (s : State) (v : Word) (a : Addr) (kept : Word) : Prop :=
  ∃ t, hostWrite a v s = .next t ∧ t.busRead a = kept ∧
    ∀ b : Addr, b.toNat % 4 = 0 → b ≠ a →
      t.busRead b = if b = 0x004 ∧ 0x100 ≤ a.toNat then s.busRead b ||| 0x00000002 else s.busRead b

section
variable {s t : State} {v kept : Word} {a : Addr} {r : Reg}

/-- A write reads back if the registers do so in the state it leaves: another address is another register's. -/
theorem State.readsBack_of_writeReg (ha : a.toNat % 4 = 0) (hr : regAt a = r) (hres : r ≠ .reserved)
    (hw : writeReg a v s r = .next t) (hkept : t.readReg r = kept)
    (hother : ∀ q ≠ r,
      t.readReg q = if q = .status ∧ 0x100 ≤ a.toNat then s.readReg q ||| 0x00000002 else s.readReg q) :
    s.ReadsBack v a kept := by
  refine ⟨t, (hostWrite_of_regAt ha hr v s).trans hw, (congrArg t.readReg hr).trans hkept, fun b hb hne => ?_⟩
  have hreg : regAt b ≠ r := fun hbr => hne (eq_of_regAt hb hbr ha hr hres)
  have hstatus : regAt b = .status ↔ b = 0x004 :=
    ⟨fun h => eq_of_regAt hb h (by decide) (by decide) nofun, fun h => by rw [h]; decide⟩
  simp only [State.busRead, hother _ hreg, hstatus]

/-- A write below the BUF window reads back if no other register reads differently. -/
theorem State.readsBack_below_buf (ha : a.toNat % 4 = 0) (hlow : a.toNat < 0x100) (hr : regAt a = r)
    (hres : r ≠ .reserved) (hw : writeReg a v s r = .next t) (hkept : t.readReg r = kept)
    (hother : ∀ q ≠ r, t.readReg q = s.readReg q) : s.ReadsBack v a kept :=
  State.readsBack_of_writeReg ha hr hres hw hkept fun q hq => by
    rw [hother q hq, if_neg (by omega)]

/-! ### Register by register -/

theorem State.readsBack_argColor (s : State) (v : Word) : s.ReadsBack v 0x014 (v &&& 0x00FFFFFF) :=
  State.readsBack_below_buf (r := .argColor) (by decide) (by decide) (by decide) nofun rfl (setWidth_lowField 24 v)
    fun q hq => by
      cases q with
      | argColor => exact absurd rfl hq
      | _ => rfl

theorem State.readsBack_argMask (s : State) (v : Word) :
    s.ReadsBack v 0x018 (v &&& BitVec.ofNat 32 (2 ^ s.params.n - 1)) :=
  State.readsBack_below_buf (r := .argMask) (by decide) (by decide) (by decide) nofun rfl rfl
    fun q hq => by
      cases q with
      | argMask => exact absurd rfl hq
      | _ => rfl

theorem State.readsBack_demoCtrl (s : State) (v : Word) : s.ReadsBack v 0x024 (v &&& 0x00000001) :=
  State.readsBack_below_buf (r := .demoCtrl) (by decide) (by decide) (by decide) nofun rfl (DemoUnit.word_written v)
    fun q hq => by
      cases q with
      | demoCtrl => exact absurd rfl hq
      | _ => rfl

theorem State.readsBack_fadeDelay (s : State) (v : Word) : s.ReadsBack v 0x028 (v &&& 0x000000FF) :=
  State.readsBack_below_buf (r := .fadeDelay) (by decide) (by decide) (by decide) nofun rfl (setWidth_lowField 8 v)
    fun q hq => by
      cases q with
      | fadeDelay => exact absurd rfl hq
      | _ => rfl

theorem State.readsBack_groupMask (s : State) (v : Word) (g : Fin 3) :
    s.ReadsBack v (BitVec.ofNat 9 (0x040 + 4 * g)) (v &&& BitVec.ofNat 32 (2 ^ s.params.n - 1)) :=
  State.readsBack_below_buf (ofNat_add_mul_aligned (by decide) g) (by rw [BitVec.toNat_ofNat]; omega)
    (regAt_groupMask g) nofun rfl (Vector.getElem_set_self ..)
    fun q hq => by
      cases q with
      | groupMask g' =>
        have hne : g.val ≠ g'.val := fun h => hq (congrArg _ (Fin.ext h.symm))
        exact Vector.getElem_set_ne g.isLt g'.isLt hne
      | _ => rfl

theorem State.readsBack_palette (s : State) (v : Word) (k : Fin 8) :
    s.ReadsBack v (BitVec.ofNat 9 (0x060 + 4 * k)) (v &&& 0x00FFFFFF) :=
  State.readsBack_below_buf (ofNat_add_mul_aligned (by decide) k) (by rw [BitVec.toNat_ofNat]; omega) (regAt_palette k)
    nofun rfl ((congrArg _ (Vector.getElem_set_self ..)).trans (setWidth_lowField 24 v))
    fun q hq => by
      cases q with
      | palette k' =>
        have hne : k.val ≠ k'.val := fun h => hq (congrArg _ (Fin.ext h.symm))
        exact congrArg (BitVec.setWidth 32) (Vector.getElem_set_ne k.isLt k'.isLt hne)
      | _ => rfl

/-- One slot word of the table is set. -/
theorem State.slotAt_setSlot {k : Nat} (hk : k < s.slotCfg.length) (w : Word) (j : Nat) :
    ({ s with slotCfg := s.slotCfg.set k w } : State).slotAt j = if j = k then w else s.slotAt j :=
  getD_set_of_lt hk w 0 j

theorem State.readsBack_slotCfg (hlen : s.slotCfg.length = s.params.nSlots) (v : Word) {k : Nat}
    (hk : k < s.params.nSlots) (hk32 : k < 32) :
    s.ReadsBack v (BitVec.ofNat 9 (0x080 + 4 * k)) (v &&& 0x0073FFFF) := by
  have hset := State.slotAt_setSlot (hlen ▸ hk) (slotStorable v)
  refine State.readsBack_below_buf (ofNat_add_mul_aligned (by decide) k) (by rw [BitVec.toNat_ofNat]; omega)
    (regAt_slotCfg k hk32) nofun (congrArg _ (if_pos hk)) ?_ fun q hq => ?_
  · rw [State.readReg, if_pos hk, hset, if_pos rfl, slotStorable]
  · cases q with
    | slotCfg j => rw [State.readReg, hset, if_neg fun h => hq (congrArg _ h), State.readReg]
    | _ => rfl

theorem State.readsBack_buf (hlen : s.buf.length = s.params.n) (v : Word) {i : Nat} (hi : i < s.params.n)
    (hi32 : i < 32) (hb : s.tx.busy = false) :
    s.ReadsBack v (BitVec.ofNat 9 (0x100 + 4 * i)) (v &&& 0x00FFFFFF) := by
  have hset := State.led_setLed (hlen ▸ hi) (colorOf v) true
  have hwindow : 0x100 ≤ (BitVec.ofNat 9 (0x100 + 4 * i)).toNat := by
    rw [BitVec.toNat_ofNat]
    omega
  refine State.readsBack_of_writeReg (ofNat_add_mul_aligned (by decide) i) (regAt_buf i hi32) nofun
    (congrArg _ (State.bufWrite_accepted hb hi _ v)) ?_ fun q hq => ?_
  · rw [State.readReg, if_pos hi, hset, if_pos rfl]
    exact setWidth_lowField 24 v
  · cases q with
    | status =>
      rw [if_pos ⟨rfl, hwindow⟩]
      exact s.statusWord_setDirty _
    | buf j =>
      rw [if_neg (by simp), State.readReg, hset, if_neg fun h => hq (congrArg _ h), State.readReg]
    | _ => exact (if_neg (by simp)).symm

end

/-- Settles O40: each register's write reads back. -/
theorem writtenRegistersReadBack : Obligations.WrittenRegistersReadBack := by
  intro s v hslots hbuf a kept hcases
  show s.ReadsBack v a kept
  rcases hcases with ⟨rfl, rfl⟩ | ⟨rfl, rfl⟩ | ⟨rfl, rfl⟩ | ⟨rfl, rfl⟩ | ⟨hg, rfl⟩ |
    ⟨⟨k, hk, rfl⟩, rfl⟩ | ⟨⟨k, hk, hk32, rfl⟩, rfl⟩ | ⟨⟨i, hi, hi32, rfl⟩, hb, rfl⟩
  · exact s.readsBack_argColor v
  · exact s.readsBack_argMask v
  · exact s.readsBack_demoCtrl v
  · exact s.readsBack_fadeDelay v
  · obtain ⟨g, rfl⟩ := exists_groupMask_addr a hg
    exact s.readsBack_groupMask v g
  · exact s.readsBack_palette v ⟨k, hk⟩
  · exact State.readsBack_slotCfg hslots v hk hk32
  · exact State.readsBack_buf hbuf v hi hi32 hb

end Sys2Proof.Machine

namespace Sys2Proof.Machine

/-! # The one-wire transmitter (41_transmitter.md) -/

/-! ### The bits of a frame (41_transmitter.md R173) -/

/-- In a concatenation of 24-bit blocks, block i begins at index 24 i. -/
theorem getElem?_flatMap_range {f : Nat → List Bool} (hf : ∀ i, (f i).length = 24) {n i j : Nat} (hi : i < n)
    (hj : j < 24) : ((List.range n).flatMap f)[24 * i + j]? = (f i)[j]? := by
  induction n with
  | zero => omega
  | succ n ih =>
    have hlen : ((List.range n).flatMap f).length = 24 * n := by simp [List.length_flatMap, hf, Nat.mul_comm]
    rw [List.range_succ, List.flatMap_append, List.flatMap_singleton]
    rcases Nat.lt_succ_iff_lt_or_eq.1 hi with hlt | rfl
    · rw [List.getElem?_append_left (by omega), ih hlt]
    · rw [List.getElem?_append_right (by omega), hlen, Nat.add_sub_cancel_left]

theorem colorBits_getElem? (c : Color) {j : Nat} (hj : j < 24) : (colorBits c)[j]? = some (c.getLsbD (23 - j)) := by
  rw [colorBits, List.getElem?_map, List.getElem?_range hj, Option.map_some]

/-- The 24 bits of LED i, from bit 23 down. -/
theorem State.frameBits_getElem? (s : State) {i j : Nat} (hi : i < s.params.n) (hj : j < 24) :
    s.frameBits[24 * i + j]? = some ((s.led i).getLsbD (23 - j)) :=
  (getElem?_flatMap_range (fun k => colorBits_length (s.led k)) hi hj).trans (colorBits_getElem? _ hj)

/-- The channel whose byte starts at bit `lo` of a colour word is sent from the LED's bit `16 - lo` on, its most
significant bit first. -/
theorem State.frameBits_channel (s : State) {i j : Nat} (hi : i < s.params.n) (hj : j < 8) {offset lo : Nat}
    (hplace : offset + lo = 16) :
    s.frameBits[24 * i + offset + j]? = some (((s.led i).extractLsb' lo 8).getLsbD (7 - j)) := by
  have hk : 7 - j < 8 := by omega
  rw [Nat.add_assoc, s.frameBits_getElem? hi (by omega), BitVec.getLsbD_extractLsb', decide_eq_true hk, Bool.true_and,
    show lo + (7 - j) = 23 - (offset + j) by omega]

/-- Settles O45: the channels stand at bits 16, 8 and 0 of a colour word. -/
theorem frameBitOrder : Obligations.FrameBitOrder := fun s =>
  ⟨s.frameBits_length, fun _ hi _ hj =>
    ⟨s.frameBits_channel hi hj (offset := 0) (lo := 16) rfl, s.frameBits_channel hi hj (offset := 8) (lo := 8) rfl,
      s.frameBits_channel hi hj (offset := 16) (lo := 0) rfl⟩⟩

/-! ### The line's cycles (41_transmitter.md R174, R178) -/

/-- The slot's high phase is the bit's, and its low phase the rest of TBIT_CYC. -/
theorem slotWave_eq (l : LineTiming) (b : Bool) :
    slotWave l b = [⟨true, if b then l.t1h else l.t0h⟩, ⟨false, l.tbit - if b then l.t1h else l.t0h⟩] := by
  cases b <;> rfl

/-- A slot lasts TBIT_CYC cycles, for either bit. -/
theorem slotWave_cycles {l : LineTiming} (h0 : l.t0h < l.t1h) (h1 : l.t1h < l.tbit) (b : Bool) :
    ((slotWave l b).map LineRun.cycles).sum = l.tbit := by
  have hhigh : (if b then l.t1h else l.t0h) ≤ l.tbit := by split <;> omega
  rw [slotWave_eq]
  exact Nat.add_sub_cancel' hhigh

theorem slots_cycles {l : LineTiming} (h0 : l.t0h < l.t1h) (h1 : l.t1h < l.tbit) (bits : List Bool) :
    ((bits.flatMap (slotWave l)).map LineRun.cycles).sum = bits.length * l.tbit := by
  induction bits with
  | nil => simp
  | cons b bits ih =>
    rw [List.flatMap_cons, List.map_append, List.sum_append, slotWave_cycles h0 h1, ih, List.length_cons,
      Nat.succ_mul, Nat.add_comm]

/-- Settles O48: every slot lasts TBIT_CYC cycles, and a frame has 24N of them. -/
theorem frameCycleCount : Obligations.FrameCycleCount := by
  intro s hp
  obtain ⟨-, -, -, -, -, -, -, -, -, -, -, -, -, -, -, -, h0, h1, -, -⟩ := hp
  rw [List.map_append, List.sum_append, slots_cycles h0 h1, State.frameBits_length]
  rfl

/-! ### A turn of the TX engine (41_transmitter.md R176, R177) -/

section
variable {s : State}

theorem txTurn_emit {b : Bool} (hb : s.tx.busy = true) (hl : s.tx.latch = false)
    (hbit : s.frameBits[s.tx.pos]? = some b) : txTurn s = .next (s.emitBit b) := by
  rw [txTurn, if_pos hb, if_neg (by simp [hl]), hbit]

theorem txTurn_latch (hb : s.tx.busy = true) (hl : s.tx.latch = true) : txTurn s = .next s.latchFrame := by
  rw [txTurn, if_pos hb, if_pos hl]

theorem txTurn_idle (hb : s.tx.busy = false) : txTurn s = .next s := by
  rw [txTurn, if_neg (by simp [hb])]

end

/-- Settles O46: a turn is the emit step, the latch step or nothing. -/
theorem txEngineSteps : Obligations.TxEngineSteps := by
  refine fun s => ⟨fun hb hl hpos => ?_, fun hb hl => ?_, txTurn_idle⟩
  · have hbit := List.getElem?_eq_getElem (s.frameBits_length.symm ▸ hpos)
    exact ⟨_, _, txTurn_emit hb hl hbit, hbit, rfl, hb, rfl, rfl, rfl, decide_eq_true_iff, slotWave_eq _ _⟩
  · exact ⟨_, txTurn_latch hb hl, rfl, rfl, rfl, rfl, rfl, rfl, rfl⟩

/-! ### TRANSMIT (41_transmitter.md R171) -/

/-- The state that an accepted TRANSMIT leaves. -/
def State.startFrame (s : State) : State :=
  { s with dirty := false, tx := { s.tx with busy := true, pos := 0, latch := false, bits := [] } }

theorem exec_transmit_idle {s : State} (hb : s.tx.busy = false) : exec .transmit s = .next s.startFrame :=
  unlessBusy_idle hb

theorem exec_transmit_busy {s : State} (hb : s.tx.busy = true) :
    exec .transmit s = .next (s.raise .busy 0x20000000) :=
  unlessBusy_busy hb

/-- Settles O19: TRANSMIT in an idle block and during a frame. -/
theorem transmitResult : Obligations.TransmitResult :=
  fun s => ⟨fun hb => ⟨s.startFrame, exec_transmit_idle hb, rfl, rfl⟩, exec_transmit_busy⟩

/-! ### A whole frame (41_transmitter.md R178, R181) -/

/-- `u` is the block k emit steps after an accepted TRANSMIT in `s`. -/
structure State.HasSent (s : State) (k : Nat) (u : State) : Prop where
  frame : u = { s with dirty := false, tx := u.tx }
  busy : u.tx.busy = true
  pos : u.tx.pos = k
  latch : u.tx.latch = true ↔ k = 24 * s.params.n
  bits : u.tx.bits = s.frameBits.take k
  frames : u.tx.frames = s.tx.frames

section
variable {s u : State} {k : Nat}

theorem State.HasSent.params (h : s.HasSent k u) : u.params = s.params := by rw [h.frame]

theorem State.HasSent.inputs (h : s.HasSent k u) : u.inputs = s.inputs := by rw [h.frame]

theorem State.HasSent.frameBits (h : s.HasSent k u) : u.frameBits = s.frameBits :=
  State.frameBits_congr (congrArg Params.n h.params) (by rw [h.frame])

theorem State.startFrame_hasSent (hn : 0 < s.params.n) : s.HasSent 0 s.startFrame where
  frame := rfl
  busy := rfl
  pos := rfl
  latch := ⟨nofun, fun h => by omega⟩
  bits := rfl
  frames := rfl

/-- One emit step more, while the frame has a bit left. -/
theorem State.HasSent.step_emits (h : s.HasSent k u) (hin : s.inputs = []) (hk : k < 24 * s.params.n) :
    ∃ v, step u = .next v ∧ s.HasSent (k + 1) v := by
  have hlt : k < s.frameBits.length := s.frameBits_length.symm ▸ hk
  have hl : u.tx.latch = false := Bool.eq_false_of_not_eq_true fun hl => hk.ne (h.latch.1 hl)
  have hbit : u.frameBits[u.tx.pos]? = some s.frameBits[k] := by
    rw [h.frameBits, h.pos, List.getElem?_eq_getElem hlt]
  refine ⟨u.emitBit s.frameBits[k], (step_nil (h.inputs.trans hin)).trans (txTurn_emit h.busy hl hbit), ?_⟩
  exact
    { frame := by rw [State.emitBit, h.frame]
      busy := h.busy
      pos := congrArg (· + 1) h.pos
      latch := by
        show decide (u.tx.pos + 1 = 24 * u.params.n) = true ↔ _
        rw [decide_eq_true_iff, h.pos, h.params]
      bits := by
        show u.tx.bits ++ [s.frameBits[k]] = _
        rw [h.bits, List.take_append_getElem]
      frames := h.frames }

/-- The TX engine sends bit after bit where no other input waits (log entry 2). -/
theorem State.run_hasSent (hn : 0 < s.params.n) (hin : s.inputs = []) (hk : k ≤ 24 * s.params.n) :
    ∃ u, core.run k s.startFrame = .next u ∧ s.HasSent k u := by
  induction k with
  | zero => exact ⟨_, rfl, State.startFrame_hasSent hn⟩
  | succ k ih =>
    obtain ⟨u, hrun, hsent⟩ := ih (by omega)
    obtain ⟨v, hstep, hv⟩ := hsent.step_emits hin hk
    exact ⟨v, (Sys2Proof.Laws.run_snoc core hrun).trans hstep, hv⟩

/-- After the last bit the next step closes the frame. -/
theorem State.HasSent.step_latches (h : s.HasSent (24 * s.params.n) u) (hin : s.inputs = []) :
    step u = .next u.latchFrame ∧ u.latchFrame.tx.frames = s.tx.frames ++ [s.frameBits] ∧
      u.latchFrame = { s with dirty := false, tx := u.latchFrame.tx } := by
  refine ⟨(step_nil (h.inputs.trans hin)).trans (txTurn_latch h.busy (h.latch.2 rfl)), ?_, ?_⟩
  · show u.tx.frames ++ [u.tx.bits] = _
    rw [h.frames, h.bits, ← s.frameBits_length, List.take_length]
  · rw [State.latchFrame, h.frame]

end

/-- Settles O47: k steps send the frame's first k bits, and the step after the last bit closes the frame. -/
theorem transmitSendsTheBuffer : Obligations.TransmitSendsTheBuffer := by
  intro s t hn hin hb ht
  cases (exec_transmit_idle hb).symm.trans ht
  refine ⟨fun k hk => ?_, ?_⟩
  · obtain ⟨u, hrun, hsent⟩ := State.run_hasSent hn hin hk
    exact ⟨u, hrun, hsent.busy, hsent.frames⟩
  · obtain ⟨u, hrun, hsent⟩ := State.run_hasSent hn hin le_rfl
    obtain ⟨hstep, hframes, hrest⟩ := hsent.step_latches hin
    exact ⟨u.latchFrame, (Sys2Proof.Laws.run_snoc core hrun).trans hstep, rfl, hframes, hrest⟩

/-! ### What FRAMES gains in a step (41_transmitter.md R179, R181) -/

/-- FRAMES is as it was, or a frame in flight ended and FRAMES gained the buffer's frame. -/
def State.GrowsByTheBuffer (s t : State) : Prop :=
  t.tx.frames = s.tx.frames ∨
    (s.tx.busy = true ∧ t.tx.busy = false ∧ t.tx.frames = s.tx.frames ++ [s.frameBits])

section
variable {s t : State}

/-- In the latch period of a good state every bit of the frame was sent. -/
theorem State.Inv.bits_of_latch (h : s.Inv) (hb : s.tx.busy = true) (hl : s.tx.latch = true) :
    s.tx.bits = s.frameBits := by
  obtain ⟨hbits, -, hlatch⟩ := h.txSent hb
  rw [hbits, hlatch.1 hl, ← s.frameBits_length, List.take_length]

theorem txTurn_growsByTheBuffer (hinv : s.Inv) (h : txTurn s = .next t) : s.GrowsByTheBuffer t := by
  rcases txTurn_cases h with ⟨-, rfl⟩ | ⟨hb, hl, rfl⟩ | ⟨-, -, b, -, rfl⟩
  · exact .inl rfl
  · refine .inr ⟨hb, rfl, ?_⟩
    rw [← hinv.bits_of_latch hb hl]
    rfl
  · exact .inl rfl

/-- The word of TRANSMIT written to CMD runs TRANSMIT. -/
theorem hostWrite_transmit (s : State) : hostWrite 0x010 0x20000000 s = exec .transmit s :=
  calc hostWrite 0x010 0x20000000 s
    _ = execute 0x20000000 s := hostWrite_of_regAt (a := 0x010) (r := .cmd) (by decide) (by decide) _ s
    _ = exec .transmit s := execute_of_decode rfl s

/-- No host write changes FRAMES: an accepted TRANSMIT only starts a frame. -/
theorem hostWrite_frames {a : Addr} {v : Word} (h : hostWrite a v s = .next t) : t.tx.frames = s.tx.frames := by
  rcases hostWrite_cases h with hf | ⟨rfl, rfl, hb, -⟩ | ⟨-, rfl⟩ | ⟨-, rfl⟩
  · rw [hf.tx]
  · rw [hostWrite_transmit, exec_transmit_idle hb] at h
    cases h
    rfl
  · rfl
  · rfl

theorem perform_growsByTheBuffer {e : Input} (hinv : s.Inv) (he : e ≠ .rst) (h : perform e s = .next t) :
    s.GrowsByTheBuffer t := by
  cases e with
  | read a =>
    rw [hostRead_frame h]
    exact .inl rfl
  | write a v => exact .inl (hostWrite_frames h)
  | tick p =>
    rw [(tickStep_frame h).1]
    exact .inl rfl
  | txTurn => exact txTurn_growsByTheBuffer hinv h
  | rst => exact absurd rfl he

end

/-- Settles O50: only the latch step changes FRAMES, and in a good state it appends the whole frame. -/
theorem framesOnlyGrowByTheBuffer : Obligations.FramesOnlyGrowByTheBuffer := by
  intro s t hinv hne h
  cases hin : s.inputs with
  | nil =>
    rw [step_nil hin] at h
    exact txTurn_growsByTheBuffer hinv h
  | cons e rest =>
    rw [step_cons hin] at h
    have he : e ≠ .rst := fun hr => hne (by rw [hin, hr]; rfl)
    exact perform_growsByTheBuffer (s := { s with inputs := rest }) (hinv.setInputs rest) he h

end Sys2Proof.Machine

namespace Sys2Proof.Machine

/-! # The pattern engine (42_pattern_engine.md) -/

/-! ### SELECT and FADE_START (42_pattern_engine.md R200, R201) -/

/-- A slot below N_SLOTS, which is at most 32, fits the five bits of PAT_IDX (10_state.md R24). -/
theorem toNat_patIdx_of_lt {slot n : Nat} (h : slot < n) (hn : n ≤ 32) : (BitVec.ofNat 5 slot).toNat = slot :=
  Nat.mod_eq_of_lt (by omega)

/-- Settles O17: the two sides of SELECT's range check. -/
theorem selectResult : Obligations.SelectResult := by
  intro s slot hi hn
  refine ⟨fun hs => ⟨_, (unlessBusy_idle hi).trans (congrArg _ (if_neg (Nat.not_le.2 hs))), ?_, rfl⟩, fun hs => ?_⟩
  · exact toNat_patIdx_of_lt hs hn
  · exact (unlessBusy_idle hi).trans (congrArg _ (if_pos hs))

/-- STATUS bits 4:2 are FADE_ACTIVE and PSTAT (10_state.md R24). -/
theorem State.statusWord_fade (s : State) :
    (s.statusWord.extractLsb' 2 3).toNat = s.pstat.code.toNat + 4 * s.fadeActive.toNat := by
  have hbusy := s.tx.busy.toNat_le
  have hdirty := s.dirty.toNat_le
  have hfade := s.fadeActive.toNat_le
  rw [toNat_field, s.statusWord_toNat]
  omega

/-- Settles O18: the state FADE_START leaves, and its STATUS. -/
theorem fadeStartResult : Obligations.FadeStartResult := by
  intro s hi
  exact ⟨_, unlessBusy_idle hi, rfl, BitVec.eq_of_toNat_eq (State.statusWord_fade _)⟩

/-! ### The checks of STEP (42_pattern_engine.md R203, R204) -/

/-- A STEP that passes its checks is one generator call, its status then recorded. -/
theorem exec_step_of_check {s : State} (hi : s.tx.busy = false) (hc : s.stepCheck = none) :
    exec .step s = .next (s.generate.1.recordStatus s.generate.2) := by
  refine (unlessBusy_idle hi).trans ?_
  rw [hc]

/-- A STEP that fails a check records the cause with STEP's word, and nothing else. -/
theorem exec_step_of_reject {s : State} {c : Cause} (hi : s.tx.busy = false) (hc : s.stepCheck = some c) :
    exec .step s = .next (s.raise c 0x12000000) := by
  refine (unlessBusy_idle hi).trans ?_
  rw [hc]
  rfl

theorem State.stepCheck_fadeDone {s : State} (hd : s.pstat = .fadeDone) : s.stepCheck = some .state := if_pos hd

theorem State.stepCheck_fade {s : State} (hd : s.pstat ≠ .fadeDone) (hf : s.fadeActive = true) :
    s.stepCheck = if s.fadeDelay = 0 then some .cfg else none := by
  rw [State.stepCheck, if_neg hd, if_pos hf]

theorem State.stepCheck_slot {s : State} (hd : s.pstat ≠ .fadeDone) (hf : s.fadeActive = false) :
    s.stepCheck = if slotValid s.cfg = true then none else some .cfg := by
  rw [State.stepCheck, if_neg hd, if_neg (Bool.eq_false_iff.1 hf)]

/-- The fade returns Refresh, NoChange or FadeDone (42_pattern_engine.md R220). -/
theorem fadeStep_status (s : State) (prev : PStatus) : (fadeStep s prev).2 ≠ .new := by
  have hhalve : s.fadeHalve.2 ≠ .new := by
    unfold State.fadeHalve
    dsimp only
    split <;> decide
  unfold fadeStep
  split
  · exact hhalve
  · split
    · exact hhalve
    · exact nofun

/-- One generator call never returns New where STEP's checks pass (42_pattern_engine.md R202). -/
theorem State.generate_ne_new {s : State} (hv : s.fadeActive = true ∨ slotValid s.cfg = true) :
    s.generate.2 ≠ .new := by
  unfold State.generate
  split
  · exact fadeStep_status s s.pstat
  · have hk := slotKind_ne_none (hv.resolve_left ‹_›)
    rcases (genStep_frame s.cfg s s.pstat).2 hk with hr | hr <;> rw [hr] <;> decide

/-- No generator writes the error record or DIRTY itself. -/
theorem GenFrame.err_dirty {s t : State} (h : GenFrame s t) : t.err = s.err ∧ t.dirty = s.dirty := by
  unfold GenFrame at h
  rw [h]
  exact ⟨rfl, rfl⟩

/-- Settles O20: the checks pass, and the frame and the status are those of the one generator call. -/
theorem stepCompletes : Obligations.StepCompletes := by
  intro s hi hd hok
  have hc : s.stepCheck = none ∧ (s.fadeActive = true ∨ slotValid s.cfg = true) := by
    cases hf : s.fadeActive with
    | true =>
      rw [if_pos hf] at hok
      exact ⟨(State.stepCheck_fade hd hf).trans (if_neg hok), .inl rfl⟩
    | false =>
      rw [if_neg (Bool.eq_false_iff.1 hf)] at hok
      exact ⟨(State.stepCheck_slot hd hf).trans (if_pos hok), .inr hok⟩
  obtain ⟨hnone, hv⟩ := hc
  refine ⟨_, exec_step_of_check hi hnone, ?_, State.generate_ne_new hv, State.generate_fadeDone hv, ?_⟩
  · have hframe := s.generate_frame
    unfold GenFrame at hframe
    rw [State.recordStatus, hframe]
  · rw [State.recordStatus_dirty, State.recordStatus_pstat, s.generate_frame.err_dirty.2]
    by_cases hr : s.generate.2 = .refresh <;> simp [hr]

/-! ### The table of slot words (30_encoding.md R120 to R123) -/

/-- The kinds in the order of their codes, 0 to 8 (30_encoding.md R121). -/
def Kind.all : List Kind := [.solid, .rainbow, .breathe, .wheel, .flash, .crazy, .walk, .arc, .ring]

/-- KIND is bits 3:0 and indexes the list of kinds, the codes past its end being reserved (30_encoding.md R121). -/
theorem slotKind_eq (w : Word) : slotKind w = Kind.all[w.toNat % 16]? := by
  have hfield : w.toNat % 16 = (w.extractLsb' 0 4).toNat := by rw [toNat_field]; omega
  rw [hfield, slotKind]
  generalize w.extractLsb' 0 4 = k
  revert k
  decide

theorem slotColor_eq (w : Word) : slotColor w = w.toNat / 2 ^ 4 % 16 := toNat_field w 4 4

theorem slotPeriod_eq (w : Word) : slotPeriod w = w.toNat / 2 ^ 8 % 256 := toNat_field w 8 8

theorem slotSeed_toNat (w : Word) : (slotSeed w).toNat = w.toNat / 2 ^ 20 % 8 := toNat_field w 20 3

/-- Settles O21: the fields of a slot word and its table row by row, then the four outcomes of the check. -/
theorem stepRejected : Obligations.StepRejected := by
  unfold Obligations.StepRejected
  intro kind color period seed keepsItsRow
  have hvalid (w : Word) : slotValid w = true ↔ keepsItsRow w := by
    have hseed : slotSeed w = 0#3 ↔ (slotSeed w).toNat = 0 := BitVec.toNat_inj.symm
    have hlt : w.toNat % 16 < 16 := Nat.mod_lt _ (by decide)
    simp only [keepsItsRow, kind, color, period, seed, ← slotColor_eq, ← slotPeriod_eq, ← slotSeed_toNat, slotValid,
      slotKind_eq]
    generalize w.toNat % 16 = code at hlt ⊢
    interval_cases code <;>
      simp [Kind.all, anySelector, paletteSelector, periodOk, seedOk, hseed, and_assoc]
  refine ⟨fun w => ⟨hvalid w, slotKind_eq w, slotColor_eq w, slotPeriod_eq w, slotSeed_toNat w,
    getLsbD_eq_decide w 16, getLsbD_eq_decide w 17⟩, fun s hi => ⟨fun h => ?_, ?_, ?_, ?_, ?_⟩⟩
  · rw [State.cfg, State.slotAt, List.getD_eq_getElem _ _ h]
  · exact fun hd => exec_step_of_reject hi (State.stepCheck_fadeDone hd)
  · exact fun hd hf h0 => exec_step_of_reject hi ((State.stepCheck_fade hd hf).trans (if_pos h0))
  · exact fun hd hf hbad =>
      exec_step_of_reject hi ((State.stepCheck_slot hd hf).trans (if_neg (mt (hvalid s.cfg).1 hbad)))
  · intro hd hf hrow
    have hv := (hvalid s.cfg).2 hrow
    refine ⟨_, exec_step_of_check hi ((State.stepCheck_slot hd hf).trans (if_pos hv)), ?_,
      State.generate_ne_new (.inr hv)⟩
    exact s.generate_frame.err_dirty.1


/-! ### One STEP of each kind (42_pattern_engine.md R205, R206) -/

/-- What a kind's New STEP leaves before its status is recorded (42_pattern_engine.md R207 to R217). -/
def Kind.start (w : Word) (s : State) : Kind → State
  | .solid => (genSolid w s .new).1
  | .rainbow | .breathe | .wheel => (s.setCnt 0).rainbow
  | .flash => (genFlash w s .new).1
  | .crazy => (s.setCnt 0).randomFill
  | .walk => (genWalk w s .new).1
  | .arc => (genArc w s .new).1
  | .ring => (genRing w s .new).1

/-- A periodic kind's cadence action (42_pattern_engine.md R209 to R217); SOLID and RAINBOW have none. -/
def Kind.act (w : Word) : Kind → State → State
  | .solid | .rainbow => id
  | .breathe => fun t => t.halveOrRefill State.rainbow
  | .wheel => fun t => t.rotate 3
  | .flash => fun t => t.halveOrRefill (State.flashRefill w)
  | .crazy => fun t => t.halveOrRefill State.randomFill
  | .walk => fun t => t.rotate (walkStride w)
  | .arc => fun t => t.revealStep (slotSeed w) (arcGroup t.params.n) fun g => t.paletteAt (slotColor w + g)
  | .ring => fun t => t.revealStep (slotSeed w) t.ringGroup fun _ => t.slotHue w

/-- A generator called with New starts its pattern and returns Refresh. -/
theorem genStep_new {w : Word} {k : Kind} (hk : slotKind w = some k) (s : State) :
    genStep w s .new = (k.start w s, .refresh) := by
  rw [genStep, hk]
  cases k <;> rfl

/-- A periodic generator called again is its action on the cadence. -/
theorem genStep_periodic {w : Word} {k : Kind} (hk : slotKind w = some k) (hp : k ∉ [Kind.solid, Kind.rainbow])
    {prev : PStatus} (hn : prev ≠ .new) (s : State) :
    genStep w s prev = s.onCadence (slotPeriod w) (k.act w) := by
  rw [genStep, hk]
  cases prev with
  | new => exact absurd rfl hn
  | refresh | noChange | fadeDone =>
    cases k with
    | solid | rainbow => simp at hp
    | breathe | wheel | flash | crazy | walk | arc | ring => rfl

/-- SOLID and RAINBOW called again change nothing and return NoChange. -/
theorem genStep_static {w : Word} {k : Kind} (hk : slotKind w = some k) (hp : k ∈ [Kind.solid, Kind.rainbow])
    {prev : PStatus} (hn : prev ≠ .new) (s : State) : genStep w s prev = (s, .noChange) := by
  rw [genStep, hk]
  cases prev with
  | new => exact absurd rfl hn
  | refresh | noChange | fadeDone =>
    cases k with
    | solid | rainbow => rfl
    | breathe | wheel | flash | crazy | walk | arc | ring => simp at hp

section
variable {s : State} {k : Kind}

theorem exec_step_new (h : s.RunsKind k) (hn : s.pstat = .new) :
    exec .step s = .next ((k.start s.cfg s).recordStatus .refresh) := by
  rw [exec_step_kind h, hn, genStep_new h.kind]

theorem exec_step_static (h : s.RunsKind k) (hp : k ∈ [Kind.solid, Kind.rainbow]) (hn : s.pstat ≠ .new) :
    exec .step s = .next { s with pstat := .noChange } := by
  rw [exec_step_kind h, genStep_static h.kind hp hn]
  rfl

theorem exec_step_waits (h : s.RunsKind k) (hp : k ∉ [Kind.solid, Kind.rainbow]) (hn : s.pstat ≠ .new)
    (hc : (s.gen.cnt + 1).toNat < slotPeriod s.cfg) :
    exec .step s = .next ((s.setCnt (s.gen.cnt + 1)).recordStatus .noChange) := by
  rw [exec_step_kind h, genStep_periodic h.kind hp hn, State.onCadence_waits hc]

theorem exec_step_acts (h : s.RunsKind k) (hp : k ∉ [Kind.solid, Kind.rainbow]) (hn : s.pstat ≠ .new)
    (hc : slotPeriod s.cfg ≤ (s.gen.cnt + 1).toNat) :
    exec .step s = .next ((k.act s.cfg (s.setCnt 0)).recordStatus .refresh) := by
  rw [exec_step_kind h, genStep_periodic h.kind hp hn, State.onCadence_acts hc]

/-- The action of BREATHE, FLASH and CRAZY: halved, and refilled where that is dark (42_pattern_engine.md R209, R213,
R214). -/
theorem exec_step_halves {refill : State → State} (h : s.RunsKind k) (hp : k ∉ [Kind.solid, Kind.rainbow])
    (hact : ∀ t, k.act s.cfg t = t.halveOrRefill refill) (hn : s.pstat ≠ .new)
    (hc : slotPeriod s.cfg ≤ (s.gen.cnt + 1).toNat) :
    ∃ t, exec .step s = .next t ∧
      (s.DarkAfterHalving → t = (refill (s.setCnt 0).halve.1).recordStatus .refresh) ∧
      (¬ s.DarkAfterHalving → t = (s.setCnt 0).halve.1.recordStatus .refresh) := by
  refine ⟨_, exec_step_acts h hp hn hc, fun hd => ?_, fun hl => ?_⟩
  · rw [hact, State.halveOrRefill_dark (s := s.setCnt 0) hd]
  · rw [hact, State.halveOrRefill_lit (s := s.setCnt 0) hl]

/-- The action of WHEEL and WALK is ROTATE, which reads and writes the buffer only (43_color_primitives.md R255). -/
theorem State.rotate_setCnt (s : State) (v : Byte) (j : Nat) : (s.setCnt v).rotate j = (s.rotate j).setCnt v := by
  induction j generalizing s with
  | zero => rfl
  | succ j ih => exact ih s.rotate1

theorem exec_step_rotates {j : Nat} (h : s.RunsKind k) (hp : k ∉ [Kind.solid, Kind.rainbow])
    (hact : ∀ t, k.act s.cfg t = t.rotate j) (hn : s.pstat ≠ .new)
    (hc : slotPeriod s.cfg ≤ (s.gen.cnt + 1).toNat) :
    ∃ t u, exec .step s = .next t ∧ exec (.rotate j) s = .next u ∧
      t = { u with pstat := .refresh, gen := { s.gen with cnt := 0 } } := by
  refine ⟨_, _, exec_step_acts h hp hn hc, unlessBusy_idle h.idle, ?_⟩
  rw [hact, State.rotate_setCnt, State.rotate_frame]
  rfl

end

/-- Settles O22: the cadence waits for every periodic kind alike. -/
theorem cadenceWaits : Obligations.CadenceWaits := fun _ _ h hp hn hc => exec_step_waits h hp hn hc

/-! ### SOLID, RAINBOW, BREATHE, WHEEL and CRAZY (42_pattern_engine.md R207 to R210, R214) -/

/-- SOLID's New draws each LED where COLOR is RANDOM (42_pattern_engine.md R207). -/
theorem Kind.start_solid_random {w : Word} (h : slotColor w = 15) (s : State) :
    Kind.solid.start w s = (s.setCnt 0).randomFill := if_pos h

theorem Kind.start_solid_palette {w : Word} (h : slotColor w ≠ 15) (s : State) :
    Kind.solid.start w s = (s.setCnt 0).fillAll (s.paletteAt (slotColor w)) := if_neg h

/-- Settles O23: the two colour sources of New, and later STEPs. -/
theorem solidStep : Obligations.SolidStep := by
  refine fun s h => ⟨fun hn => ⟨_, exec_step_new h hn, ?_⟩, exec_step_static h (by decide)⟩
  by_cases hc : slotColor s.cfg = 15
  · rw [Kind.start_solid_random hc]
    exact ⟨rfl, fun hle => by omega, fun _ => ⟨rfl, fun i hi => (State.led_paint s _ i).trans (if_pos hi)⟩⟩
  · rw [Kind.start_solid_palette hc]
    exact ⟨rfl, fun _ => ⟨rfl, fun i hi => (State.led_paint s _ i).trans (if_pos hi)⟩, fun h15 => absurd h15 hc⟩

/-- Settles O24: New is `rainbow()`, later STEPs are static. -/
theorem rainbowStep : Obligations.RainbowStep := fun _ h =>
  ⟨fun hn => ⟨_, _, exec_step_new h hn, unlessBusy_idle h.idle, rfl⟩, exec_step_static h (by decide)⟩

/-- Settles O25: New is `rainbow()`, the action halves and redraws. -/
theorem breatheStep : Obligations.BreatheStep := by
  refine fun s h => ⟨fun hn => ⟨_, _, exec_step_new h hn, unlessBusy_idle h.idle, rfl⟩, fun hn hc => ?_⟩
  obtain ⟨t, ht, hdark, hlit⟩ := exec_step_halves h (by decide) (fun _ => rfl) hn hc
  exact ⟨t, _, _, ht, unlessBusy_idle h.idle, unlessBusy_idle h.idle, hdark, hlit⟩

/-- Settles O26: New is `rainbow()`, the action rotates by three. -/
theorem wheelStep : Obligations.WheelStep := fun _ h =>
  ⟨fun hn => ⟨_, _, exec_step_new h hn, unlessBusy_idle h.idle, rfl⟩, exec_step_rotates h (by decide) fun _ => rfl⟩

/-- Settles O28: New is `random_fill()`, the action halves and draws again. -/
theorem crazyStep : Obligations.CrazyStep := by
  refine fun s h => ⟨fun hn => ⟨_, _, exec_step_new h hn, unlessBusy_idle h.idle, rfl⟩, fun hn hc => ?_⟩
  obtain ⟨t, ht, hdark, hlit⟩ := exec_step_halves h (by decide) (fun _ => rfl) hn hc
  exact ⟨t, _, _, ht, unlessBusy_idle h.idle, unlessBusy_idle h.idle, hdark, hlit⟩

/-! ### FLASH (42_pattern_engine.md R211 to R213) -/

/-- Palette entries are taken modulo 8 (42_pattern_engine.md R211). -/
theorem State.paletteAt_mod (s : State) (j : Nat) : s.paletteAt (j % 8) = s.paletteAt j := by
  simp only [State.paletteAt, Nat.mod_mod]

/-- The colour layout at the phase that GEN_STATE holds (42_pattern_engine.md R211). -/
theorem State.led_flashFill (s : State) (w : Word) {i : Nat} (hi : i < s.params.n) :
    (s.flashFill w).led i = s.paletteAt ((slotColor w + (i + s.gen.phase.toNat) % flashColors w) % 8) := by
  rw [State.paletteAt_mod, State.flashFill, State.led_paint, if_pos hi]

/-- PHASE advances modulo K, which fits its two bits (42_pattern_engine.md R213). -/
theorem State.flashRefill_phase (s : State) (w : Word) :
    (s.flashRefill w).gen.phase.toNat = (s.gen.phase.toNat + 1) % flashColors w := by
  have hlt := Nat.mod_lt (s.gen.phase.toNat + 1) (flashColors_pos w)
  have hle := flashColors_le w
  exact Nat.mod_eq_of_lt (by omega)

/-- Settles O27: New lays the colours out at PHASE 0, the action halves and lays them out one phase on. -/
theorem flashStep : Obligations.FlashStep := by
  refine fun s h => ⟨fun hn => ⟨_, exec_step_new h hn, fun i hi => ?_, rfl⟩, fun hn hc => ?_⟩
  · exact State.led_flashFill ((s.setCnt 0).setPhase 0) s.cfg hi
  · obtain ⟨t, ht, hdark, hlit⟩ := exec_step_halves h (by decide) (fun _ => rfl) hn hc
    refine ⟨t, _, ht, unlessBusy_idle h.idle, hlit, fun hd => ?_⟩
    rw [hdark hd]
    exact ⟨State.flashRefill_phase (s.setCnt 0).halve.1 s.cfg, fun i hi => State.led_flashFill _ s.cfg hi, rfl⟩

/-! ### WALK (42_pattern_engine.md R215) -/

section
variable {s : State} {w : Word}

theorem State.drawIfRandom_random (h : slotColor w = 15) : s.drawIfRandom w = s.drawRcolor := if_pos h

theorem State.drawIfRandom_palette (h : slotColor w ≠ 15) : s.drawIfRandom w = s := if_neg h

theorem State.slotHue_random (h : slotColor w = 15) : s.slotHue w = s.gen.rcolor := if_pos h

theorem State.slotHue_palette (h : slotColor w ≠ 15) : s.slotHue w = s.paletteAt (slotColor w) := if_neg h

end

/-- A New STEP that lights a set of LEDs in one colour over black, once `u` has drawn the colour and seeded what the
kind needs (42_pattern_engine.md R215 to R217). -/
theorem exec_step_lights {s u : State} {k : Kind} {member : Nat → Bool} {c : Color} (h : s.RunsKind k)
    (hn : s.pstat = .new) (hstart : k.start s.cfg s = (u.fillAll 0).fillWhere member c) :
    ∃ t, exec .step s = .next t ∧ t = { u with pstat := .refresh, dirty := true, buf := t.buf } ∧
      ∀ i < u.params.n, t.led i = if member i then c else 0 := by
  refine ⟨_, exec_step_new h hn, ?_⟩
  rw [hstart]
  exact ⟨State.fillWhere_record u 0 c member, State.led_fillAll_fillWhere u 0 c member⟩

theorem contains_walkSegment (n : Nat) (w : Word) (i : Nat) :
    (walkSegment n w).contains i = true ↔ i ∈ walkSegment n w := List.contains_iff_mem

/-- Settles O29: New with each colour source, and the action's rotation. -/
theorem walkStep : Obligations.WalkStep := by
  refine fun s h => ⟨fun hn => ?_, exec_step_rotates h (by decide) fun _ => rfl⟩
  obtain ⟨t, ht, hframe, hled⟩ := exec_step_lights h hn (u := (s.setCnt 0).drawIfRandom s.cfg) rfl
  refine ⟨t, ht, ?_⟩
  simp only [contains_walkSegment] at hled
  by_cases hc : slotColor s.cfg = 15
  · rw [State.drawIfRandom_random hc] at hframe hled
    rw [State.slotHue_random hc] at hled
    rw [hframe]
    exact ⟨rfl, fun hle => by omega, fun _ => ⟨rfl, rfl, hframe ▸ hled⟩⟩
  · rw [State.drawIfRandom_palette hc] at hframe hled
    rw [State.slotHue_palette hc] at hled
    rw [hframe]
    exact ⟨rfl, fun _ => ⟨rfl, rfl, hframe ▸ hled⟩, fun h15 => absurd h15 hc⟩

/-! ### The reveal step of ARC and RING (42_pattern_engine.md R216 to R218) -/

/-- A STEP whose action is a reveal step: MASK, then each LED by the highest-numbered of its groups. -/
theorem exec_step_reveals {s : State} {k : Kind} {group : Nat → Nat → Bool} {col : Nat → Color} (h : s.RunsKind k)
    (hp : k ∉ [Kind.solid, Kind.rainbow])
    (hact : k.act s.cfg (s.setCnt 0) = (s.setCnt 0).revealStep (slotSeed s.cfg) group col) (hn : s.pstat ≠ .new)
    (hc : slotPeriod s.cfg ≤ (s.gen.cnt + 1).toNat) :
    ∃ t, exec .step s = .next t ∧
      t = { s with pstat := .refresh, dirty := true, buf := t.buf,
                   gen := { s.gen with cnt := 0, mask := t.gen.mask } } ∧
      (s.gen.mask = 0 → t.gen.mask = slotSeed s.cfg) ∧ (s.gen.mask ≠ 0 → t.gen.mask = s.gen.mask >>> 1) ∧
      ∀ i < s.params.n, t.led i =
        if group 2 i then (if t.gen.mask.getLsbD 2 then col 2 else 0)
        else if group 1 i then (if t.gen.mask.getLsbD 1 then col 1 else 0)
        else if group 0 i then (if t.gen.mask.getLsbD 0 then col 0 else 0)
        else s.led i := by
  have hmask := State.revealStep_mask (s.setCnt 0) (slotSeed s.cfg) group col
  have hled := State.led_revealStep (s.setCnt 0) (slotSeed s.cfg) group col
  have hrecord := State.revealStep_record (s.setCnt 0) (slotSeed s.cfg) group col
  refine ⟨_, exec_step_acts h hp hn hc, ?_⟩
  rw [hact]
  generalize (s.setCnt 0).revealStep (slotSeed s.cfg) group col = u at hmask hled hrecord ⊢
  exact ⟨hrecord, fun hm => hmask.trans (if_pos hm), fun hm => hmask.trans (if_neg hm), hled⟩

/-! ### ARC (42_pattern_engine.md R216) -/

/-- The third of the chain that LED i stands in, the last one with the extra LEDs (42_pattern_engine.md R216). -/
def arcOf (n i : Nat) : Nat := if i < n / 3 then 0 else if i < 2 * (n / 3) then 1 else 2

/-- LED i is in exactly one third: what a reveal step shows there is decided by that third's bit alone. -/
theorem ite_arcGroup {n i : Nat} (hi : i < n) {α : Type} (f : Nat → α) (back : α) :
    (if arcGroup n 2 i then f 2 else if arcGroup n 1 i then f 1 else if arcGroup n 0 i then f 0 else back) =
      f (arcOf n i) := by
  unfold arcOf
  rcases Nat.lt_or_ge i (n / 3) with h0 | h0
  · simp [arcGroup, h0, show ¬ 2 * (n / 3) ≤ i by omega, show ¬ n / 3 ≤ i by omega]
  · rcases Nat.lt_or_ge i (2 * (n / 3)) with h1 | h1
    · simp [arcGroup, h0, h1, show ¬ i < n / 3 by omega, show ¬ 2 * (n / 3) ≤ i by omega]
    · simp [arcGroup, hi, h1, show ¬ i < n / 3 by omega, show ¬ i < 2 * (n / 3) by omega]

theorem arcGroup_two {n i : Nat} (hi : i < n) : arcGroup n 2 i = true ↔ arcOf n i = 2 := by
  unfold arcOf
  simp only [arcGroup, Bool.and_eq_true, decide_eq_true_eq]
  split
  · omega
  · split <;> omega

/-- What ARC's New lights, once MASK is seeded (42_pattern_engine.md R216). -/
theorem Kind.start_arc (w : Word) (s : State) : Kind.arc.start w s =
    (((s.setCnt 0).setMask (slotSeed w)).fillAll 0).fillWhere (arcGroup s.params.n 2)
      (s.paletteAt (slotColor w + 2)) := rfl

/-- ARC's action is a reveal step on the thirds (42_pattern_engine.md R216). -/
theorem Kind.act_arc (w : Word) (t : State) : Kind.arc.act w t =
    t.revealStep (slotSeed w) (arcGroup t.params.n) fun g => t.paletteAt (slotColor w + g) := rfl

/-- Settles O30: New shows the last third, the action the thirds whose bits are set. -/
theorem arcStep : Obligations.ArcStep := by
  refine fun s h => ⟨fun hn => ?_, fun hn hc => ?_⟩
  · obtain ⟨t, ht, hframe, hled⟩ := exec_step_lights h hn (Kind.start_arc s.cfg s)
    refine ⟨t, ht, hframe, fun i hi => ?_⟩
    rw [State.paletteAt_mod, hled i hi]
    exact if_congr (arcGroup_two hi) rfl rfl
  · obtain ⟨t, ht, hframe, hseed, hshift, hled⟩ := exec_step_reveals h (by decide) (Kind.act_arc _ _) hn hc
    refine ⟨t, ht, hframe, hseed, hshift, fun i hi => ?_⟩
    rw [State.paletteAt_mod]
    exact (hled i hi).trans
      (ite_arcGroup hi (fun g => if t.gen.mask.getLsbD g then s.paletteAt (slotColor s.cfg + g) else 0) (s.led i))

/-! ### RING (42_pattern_engine.md R217) -/

/-- What RING's New lights, once its colour is drawn and MASK seeded (42_pattern_engine.md R217). -/
theorem Kind.start_ring (w : Word) (s : State) :
    let u := ((s.setCnt 0).drawIfRandom w).setMask (slotSeed w)
    Kind.ring.start w s = (u.fillAll 0).fillWhere (u.ringGroup 2) (u.slotHue w) := rfl

/-- RING's action is a reveal step on the GROUP_MASK sets (42_pattern_engine.md R217). -/
theorem Kind.act_ring (w : Word) (t : State) : Kind.ring.act w t =
    t.revealStep (slotSeed w) t.ringGroup fun _ => t.slotHue w := rfl

/-- Settles O31: New with each colour source, and the action on the GROUP_MASK sets. -/
theorem ringStep : Obligations.RingStep := by
  refine fun s h => ⟨fun hn => ?_, fun hn hc => exec_step_reveals h (by decide) (Kind.act_ring _ _) hn hc⟩
  obtain ⟨t, ht, hframe, hled⟩ := exec_step_lights h hn (Kind.start_ring s.cfg s)
  by_cases hc : slotColor s.cfg = 15
  · rw [State.drawIfRandom_random hc] at hframe hled
    rw [State.slotHue_random hc] at hled
    refine ⟨t, s.rand.drawColor 0, ht, ?_⟩
    rw [hframe]
    exact ⟨rfl, fun hle => by omega, fun _ => ⟨rfl, rfl, rfl⟩, hframe ▸ hled⟩
  · rw [State.drawIfRandom_palette hc] at hframe hled
    rw [State.slotHue_palette hc] at hled
    refine ⟨t, s.paletteAt (slotColor s.cfg), ht, ?_⟩
    rw [hframe]
    exact ⟨rfl, fun _ => ⟨rfl, rfl, rfl⟩, fun h15 => absurd h15 hc, hframe ▸ hled⟩


/-! ### The cycle of MASK (42_pattern_engine.md R218) -/

/-- A word shifted right is 0 once the shift passes its highest set bit. -/
theorem ushiftRight_eq_zero_iff {n : Nat} {x : BitVec n} (hx : x ≠ 0) (j : Nat) :
    x >>> j = 0 ↔ Nat.log2 x.toNat < j := by
  have hpos : x.toNat ≠ 0 := fun h => hx (BitVec.eq_of_toNat_eq h)
  rw [Nat.log2_lt hpos, ← BitVec.toNat_inj, BitVec.toNat_ushiftRight, Nat.shiftRight_eq_div_pow, toNat_reserved,
    Nat.div_eq_zero_iff, or_iff_right (Nat.two_pow_pos j).ne']

/-- MASK after j reveal steps from SEED, as long as it was not zero before (42_pattern_engine.md R218). -/
theorem State.revealStep_iterate_mask {s : State} {seed : BitVec 3} (hseed : seed ≠ 0) (hm : s.gen.mask = seed)
    (group : Nat → Nat → Bool) (col : Nat → Color) (j : Nat) (hj : j ≤ Nat.log2 seed.toNat + 1) :
    ((fun u : State => u.revealStep seed group col)^[j] s).gen.mask = seed >>> j := by
  induction j with
  | zero => exact hm.trans (BitVec.ushiftRight_zero seed).symm
  | succ j ih =>
    have hne : seed >>> j ≠ 0 := fun h => absurd ((ushiftRight_eq_zero_iff hseed j).1 h) (by omega)
    rw [Function.iterate_succ_apply', State.revealStep_mask, ih (by omega), if_neg hne, BitVec.shiftRight_add]

/-- Settles O32: MASK is SEED shifted until that is zero, and then SEED again. -/
theorem revealMaskCycle : Obligations.RevealMaskCycle := by
  intro s seed group col hseed hm after top
  have hmask : ∀ j ≤ top, (after j).gen.mask = seed >>> j := State.revealStep_iterate_mask hseed hm group col
  have hzero (j : Nat) : seed >>> j = 0 ↔ Nat.log2 seed.toNat < j := ushiftRight_eq_zero_iff hseed j
  have htop : (after top).gen.mask = 0 := (hmask top le_rfl).trans ((hzero top).2 (Nat.lt_succ_self _))
  refine ⟨hmask, fun j hj h0 => ?_, htop, ?_⟩
  · rw [hmask j hj.le, hzero] at h0
    omega
  · show ((fun u : State => u.revealStep seed group col)^[top + 1] s).gen.mask = seed
    rw [Function.iterate_succ_apply', State.revealStep_mask]
    exact if_pos htop

/-! ### The fade (42_pattern_engine.md R219, R220) -/

theorem State.fadeHalve_dark {s : State} (hd : s.DarkAfterHalving) :
    s.fadeHalve = ((s.setFadeCnt 0).halve.1, .fadeDone) :=
  congrArg (Prod.mk _) (if_pos ((State.halve_eq_zero (s.setFadeCnt 0)).2 hd))

theorem State.fadeHalve_lit {s : State} (hl : ¬ s.DarkAfterHalving) :
    s.fadeHalve = ((s.setFadeCnt 0).halve.1, .refresh) :=
  congrArg (Prod.mk _) (if_neg fun h => hl ((State.halve_eq_zero (s.setFadeCnt 0)).1 h))

section
variable {s : State}

/-- A fade STEP halves at New and when FADE_CNT + 1 reaches DELAY. -/
theorem exec_step_fade_halves (h : s.RunsFade)
    (hd : s.pstat = .new ∨ s.fadeDelay.toNat ≤ (s.gen.fadeCnt + 1).toNat) :
    ∃ t, exec .step s = .next t ∧
      (s.DarkAfterHalving → t = (s.setFadeCnt 0).halve.1.recordStatus .fadeDone) ∧
      (¬ s.DarkAfterHalving → t = (s.setFadeCnt 0).halve.1.recordStatus .refresh) := by
  have hstep : fadeStep s s.pstat = s.fadeHalve := by
    unfold fadeStep
    split
    · rfl
    · exact if_pos (hd.resolve_left ‹_›)
  refine ⟨_, exec_step_fade h, fun hdark => ?_, fun hlit => ?_⟩
  · rw [hstep, State.fadeHalve_dark hdark]
  · rw [hstep, State.fadeHalve_lit hlit]

/-- Any other fade STEP counts FADE_CNT. -/
theorem exec_step_fade_counts (h : s.RunsFade) (hn : s.pstat ≠ .new)
    (hc : (s.gen.fadeCnt + 1).toNat < s.fadeDelay.toNat) :
    exec .step s = .next ((s.setFadeCnt (s.gen.fadeCnt + 1)).recordStatus .noChange) := by
  rw [exec_step_fade h, fadeStep, if_neg hn, if_neg (Nat.not_le.2 hc)]

end

/-- Settles O33: the STEPs that halve, dark or lit, and those that count. -/
theorem fadeStepResult : Obligations.FadeStepResult := by
  refine fun s h => ⟨fun hd => ?_, exec_step_fade_counts h⟩
  obtain ⟨t, ht, hdark, hlit⟩ := exec_step_fade_halves h hd
  exact ⟨t, _, ht, unlessBusy_idle h.idle, hdark, hlit⟩

/-! ### The brightest channel (42_pattern_engine.md R219, 43_color_primitives.md R264) -/

/-- The largest channel of a colour word. -/
def brightestChannel (c : Color) : Nat := max (chanG c).toNat (max (chanR c).toNat (chanB c).toNat)

theorem State.brightest_eq (s : State) :
    s.brightest = ((List.range s.params.n).map fun i => brightestChannel (s.led i)).foldl max 0 := rfl

theorem max_div_two (a b : Nat) : max a b / 2 = max (a / 2) (b / 2) :=
  Monotone.map_max (f := (· / 2)) fun _ _ h => Nat.div_le_div_right h

theorem brightestChannel_halveColor (c : Color) : brightestChannel (halveColor c) = brightestChannel c / 2 := by
  simp only [brightestChannel, halveColor, chanG_rgb, chanR_rgb, chanB_rgb, BitVec.toNat_ushiftRight,
    Nat.shiftRight_one, max_div_two]

theorem foldl_max_div_two (l : List Nat) (a : Nat) : (l.map (· / 2)).foldl max (a / 2) = l.foldl max a / 2 := by
  induction l generalizing a with
  | nil => rfl
  | cons x l ih => rw [List.map_cons, List.foldl_cons, List.foldl_cons, ← max_div_two, ih]

/-- Halving the buffer halves its largest channel. -/
theorem State.brightest_halve (s : State) : s.halve.1.brightest = s.brightest / 2 := by
  rw [State.brightest_eq, State.brightest_eq, ← foldl_max_div_two, List.map_map]
  congr 1
  refine List.map_congr_left fun i hi => ?_
  exact (congrArg brightestChannel ((s.led_halve i).trans (if_pos (List.mem_range.1 hi)))).trans
    (brightestChannel_halveColor _)

theorem brightestChannel_eq_zero {c : Color} : brightestChannel c = 0 ↔ c = 0 := by
  constructor
  · intro h
    simp only [brightestChannel, Nat.max_eq_zero_iff] at h
    obtain ⟨hg, hr, hb⟩ := h
    exact color_eq_zero (BitVec.eq_of_toNat_eq hg) (BitVec.eq_of_toNat_eq hr) (BitVec.eq_of_toNat_eq hb)
  · rintro rfl
    decide

theorem foldl_max_eq_zero {l : List Nat} {a : Nat} : l.foldl max a = 0 ↔ a = 0 ∧ ∀ x ∈ l, x = 0 := by
  induction l generalizing a with
  | nil => simp
  | cons x l ih => simp [ih, and_assoc]

/-- The buffer is dark when its largest channel is 0. -/
theorem State.brightest_eq_zero (s : State) : s.brightest = 0 ↔ s.Dark := by
  rw [State.brightest_eq, foldl_max_eq_zero]
  simp [State.Dark, brightestChannel_eq_zero]

theorem State.darkAfterHalving_iff (s : State) : s.DarkAfterHalving ↔ s.brightest / 2 = 0 := by
  rw [← State.brightest_halve, State.brightest_eq_zero, ← State.litCount_eq_zero, ← State.halve_count,
    State.halve_eq_zero]

/-! ### A whole fade (42_pattern_engine.md R219, R220) -/

/-- `t` is the block after j + 1 STEPs of the fade that starts in `s`: it has halved its buffer at STEP 1 and then at
every DELAY-th STEP. -/
structure State.FadedTo (s : State) (j : Nat) (t : State) : Prop where
  idle : t.tx.busy = false
  fade : t.fadeActive = true
  delay : t.fadeDelay = s.fadeDelay
  count : t.gen.fadeCnt.toNat = j % s.fadeDelay.toNat
  bright : t.brightest = s.brightest / 2 ^ (j / s.fadeDelay.toNat + 1)
  status : t.pstat = if t.brightest = 0 then .fadeDone else if j % s.fadeDelay.toNat = 0 then .refresh else .noChange

/-- One count more within DELAY, or the next round of DELAY. -/
theorem succ_div_mod {d : Nat} (hd : 0 < d) (j : Nat) :
    (j % d + 1 < d ∧ (j + 1) / d = j / d ∧ (j + 1) % d = j % d + 1) ∨
    (j % d + 1 = d ∧ (j + 1) / d = j / d + 1 ∧ (j + 1) % d = 0) := by
  have hj := Nat.mod_add_div j d
  have hlt := Nat.mod_lt j hd
  rcases Nat.lt_or_eq_of_le (Nat.succ_le_of_lt hlt) with h | h
  · exact .inl ⟨h, (Nat.div_mod_unique hd).2 ⟨by omega, h⟩⟩
  · refine .inr ⟨h, (Nat.div_mod_unique hd).2 ⟨?_, hd⟩⟩
    rw [Nat.mul_succ]
    omega

/-- FADE_CNT does not wrap while it is below DELAY (60_exceptions.md R343). -/
theorem toNat_succ_of_lt {v d : Byte} (h : v.toNat < d.toNat) : (v + 1).toNat = v.toNat + 1 := by
  bv_omega

section
variable {s t : State} {j : Nat}

theorem State.delay_pos (hd : s.fadeDelay ≠ 0) : 0 < s.fadeDelay.toNat :=
  Nat.pos_of_ne_zero fun h => hd (BitVec.eq_of_toNat_eq h)

/-- What a halving STEP of the fade leaves, as far as the next STEPs depend on it. -/
theorem exec_step_fade_brightest (h : t.RunsFade)
    (hd : t.pstat = .new ∨ t.fadeDelay.toNat ≤ (t.gen.fadeCnt + 1).toNat) :
    ∃ u, exec .step t = .next u ∧ u.tx.busy = false ∧ u.fadeActive = true ∧ u.fadeDelay = t.fadeDelay ∧
      u.gen.fadeCnt = 0 ∧ u.brightest = t.brightest / 2 ∧
      u.pstat = if u.brightest = 0 then .fadeDone else .refresh := by
  obtain ⟨u, hu, hdark, hlit⟩ := exec_step_fade_halves h hd
  have hb : (t.setFadeCnt 0).halve.1.brightest = t.brightest / 2 := (t.setFadeCnt 0).brightest_halve
  refine ⟨u, hu, ?_⟩
  by_cases hz : t.brightest / 2 = 0
  · rw [hdark (t.darkAfterHalving_iff.2 hz)]
    exact ⟨h.idle, h.fade, rfl, rfl, hb, (if_pos (hb.trans hz)).symm⟩
  · rw [hlit (mt t.darkAfterHalving_iff.1 hz)]
    exact ⟨h.idle, h.fade, rfl, rfl, hb, (if_neg fun h0 => hz (hb.symm.trans h0)).symm⟩

/-- STEP 1 halves the buffer. -/
theorem State.RunsFade.exec_step_first (h : s.RunsFade) (hn : s.pstat = .new) :
    ∃ t, exec .step s = .next t ∧ s.FadedTo 0 t := by
  obtain ⟨t, ht, hidle, hfade, hdelay, hcnt, hbright, hstatus⟩ := exec_step_fade_brightest h (.inl hn)
  refine ⟨t, ht, hidle, hfade, hdelay, ?_, ?_, ?_⟩
  · rw [hcnt, Nat.zero_mod, toNat_reserved]
  · rw [hbright, Nat.zero_div, Nat.zero_add, Nat.pow_one]
  · rw [hstatus, Nat.zero_mod, if_pos rfl]

/-- The fade goes on while a channel is lit. -/
theorem State.FadedTo.runsFade (h : s.FadedTo j t) (hd : s.fadeDelay ≠ 0) (hlit : t.brightest ≠ 0) : t.RunsFade where
  idle := h.idle
  fade := h.fade
  notDone := by
    rw [h.status, if_neg hlit]
    split <;> decide
  delay := h.delay ▸ hd

theorem State.FadedTo.pstat_ne_new (h : s.FadedTo j t) : t.pstat ≠ .new := by
  rw [h.status]
  split
  · decide
  · split <;> decide

/-- One STEP more while a channel is lit: it counts, or it halves when the count reaches DELAY. -/
theorem State.FadedTo.next (h : s.FadedTo j t) (hd : s.fadeDelay ≠ 0) (hlit : t.brightest ≠ 0) :
    ∃ u, exec .step t = .next u ∧ s.FadedTo (j + 1) u := by
  have hrun := h.runsFade hd hlit
  have hpos := State.delay_pos hd
  have hcnt : (t.gen.fadeCnt + 1).toNat = j % s.fadeDelay.toNat + 1 := by
    rw [← h.count]
    exact toNat_succ_of_lt (h.count ▸ Nat.mod_lt j hpos)
  rcases succ_div_mod hpos j with ⟨hlt, hdiv, hmod⟩ | ⟨heq, hdiv, hmod⟩
  · refine ⟨_, exec_step_fade_counts hrun h.pstat_ne_new (by rw [hcnt, h.delay]; exact hlt), h.idle, h.fade, h.delay,
      ?_, ?_, ?_⟩
    · rw [hmod]
      exact hcnt
    · rw [hdiv]
      exact h.bright
    · rw [hmod, if_neg (Nat.succ_ne_zero _)]
      exact (if_neg hlit).symm
  · obtain ⟨u, hu, hidle, hfade, hdelay, hzero, hbright, hstatus⟩ :=
      exec_step_fade_brightest hrun (.inr (by rw [hcnt, h.delay]; exact heq.ge))
    refine ⟨u, hu, hidle, hfade, hdelay.trans h.delay, ?_, ?_, ?_⟩
    · rw [hzero, hmod, toNat_reserved]
    · rw [hbright, h.bright, hdiv, Nat.div_div_eq_div_mul, ← Nat.pow_succ]
    · rw [hstatus, hmod, if_pos rfl]

/-- The buffer is dark once it has been halved bitlength(v) times (43_color_primitives.md R264). -/
theorem State.FadedTo.brightest_eq_zero (h : s.FadedTo j t) (hv : s.brightest ≠ 0) :
    t.brightest = 0 ↔ Nat.log2 s.brightest ≤ j / s.fadeDelay.toNat := by
  rw [h.bright, Nat.div_eq_zero_iff, or_iff_right (Nat.two_pow_pos _).ne', ← Nat.log2_lt hv, Nat.lt_succ_iff]

theorem State.FadedTo.lit (h : s.FadedTo j t) (hd : s.fadeDelay ≠ 0) (hv : s.brightest ≠ 0)
    (hj : j < Nat.log2 s.brightest * s.fadeDelay.toNat) : t.brightest ≠ 0 := by
  rw [Ne, h.brightest_eq_zero hv, Nat.not_le]
  exact (Nat.div_lt_iff_lt_mul (State.delay_pos hd)).2 hj

/-- The fade runs until the buffer is dark. -/
theorem State.RunsFade.run (h : s.RunsFade) (hn : s.pstat = .new) (hv : s.brightest ≠ 0)
    (hj : j ≤ Nat.log2 s.brightest * s.fadeDelay.toNat) :
    ∃ t, execTimes .step (j + 1) s = some t ∧ s.FadedTo j t := by
  induction j with
  | zero =>
    obtain ⟨t, ht, hfaded⟩ := h.exec_step_first hn
    exact ⟨t, execTimes_snoc rfl ht, hfaded⟩
  | succ j ih =>
    obtain ⟨t, ht, hfaded⟩ := ih (by omega)
    obtain ⟨u, hu, hnext⟩ := hfaded.next h.delay (hfaded.lit h.delay hv hj)
    exact ⟨u, execTimes_snoc ht hu, hnext⟩

end

/-- Settles O34: the run up to STEP k, lit before the last STEP and dark at it. -/
theorem fadeTakesItsSteps : Obligations.FadeTakesItsSteps := by
  intro s k h hn hv last hk hle
  obtain ⟨j, rfl⟩ : ∃ j, k = j + 1 := ⟨k - 1, by omega⟩
  obtain ⟨t, ht, hfaded⟩ := h.run (j := j) hn hv (by omega)
  have hlit (hlt : j + 1 < last) : t.pstat = if j % s.fadeDelay.toNat = 0 then .refresh else .noChange :=
    hfaded.status.trans (if_neg (hfaded.lit h.delay hv (by omega)))
  refine ⟨t, ht, fun hlt => ?_, fun hlt => ?_, fun heq => ?_⟩
  · rw [hlit hlt]
    split
    · exact .inl rfl
    · exact .inr rfl
  · rw [hlit hlt, Nat.add_sub_cancel]
    by_cases hr : j % s.fadeDelay.toNat = 0 <;> simp [hr]
  · have hj : j = Nat.log2 s.brightest * s.fadeDelay.toNat := by omega
    have hdark : t.brightest = 0 :=
      (hfaded.brightest_eq_zero hv).2 (by rw [hj, Nat.mul_div_cancel _ (State.delay_pos h.delay)])
    exact ⟨hfaded.status.trans (if_pos hdark), t.brightest_eq_zero.1 hdark⟩

end Sys2Proof.Machine

namespace Sys2Proof.Machine

/-! # The colour-buffer commands (43_color_primitives.md) -/

/-! ### Commands that paint the buffer (43_color_primitives.md R250) -/

/-- A command that is accepted and ends in one painting: the buffer and DIRTY are written, and nothing else. -/
theorem exec_paints {i : Instr} {s : State} {f : Nat → Color} (h : exec i s = .next (s.paint f).markDirty) :
    ∃ t, exec i s = .next t ∧ t = { s with buf := t.buf, dirty := true } ∧ t.buf.length = s.params.n ∧
      ∀ j < s.params.n, t.led j = f j :=
  ⟨_, h, rfl, s.paint_buf_length f, fun j hj => (s.led_paint f j).trans (if_pos hj)⟩

/-! ### FILL_ALL, FILL_RANGE and FILL_MASK (43_color_primitives.md R251 to R253) -/

/-- Settles O7: FILL_ALL paints one colour. -/
theorem fillAllResult : Obligations.FillAllResult := fun _ hidle => exec_paints (unlessBusy_idle hidle)

section
variable {s : State} {lo hi : Nat}

theorem exec_fillRange_accepted (hidle : s.tx.busy = false) (hlo : lo ≤ hi) (hhi : hi < s.params.n) :
    exec (.fillRange lo hi) s = .next (s.fillRange lo hi s.argColor).markDirty :=
  (unlessBusy_idle hidle).trans (congrArg _ (if_neg (by omega)))

theorem exec_fillRange_rejected (hidle : s.tx.busy = false) (h : hi < lo ∨ s.params.n ≤ hi) :
    exec (.fillRange lo hi) s = .next (s.raise .range (encode (.fillRange lo hi))) :=
  (unlessBusy_idle hidle).trans (congrArg _ (if_pos h))

end

/-- Settles O8: the two sides of FILL_RANGE's range check. -/
theorem fillRangeResult : Obligations.FillRangeResult := by
  refine fun s lo hi hidle => ⟨fun hlo hhi => ?_, exec_fillRange_rejected hidle⟩
  obtain ⟨t, ht, hframe, hlen, hled⟩ := exec_paints (exec_fillRange_accepted hidle hlo hhi)
  exact ⟨t, ht, hframe, hlen, fun i hin => (hled i hin).trans (if_congr decide_eq_true_iff rfl rfl)⟩

/-- Settles O9: FILL_MASK paints the members of ARG_MASK. -/
theorem fillMaskResult : Obligations.FillMaskResult := fun _ hidle => exec_paints (unlessBusy_idle hidle)

/-! ### Rotation (43_color_primitives.md R254 to R256) -/

section
variable {s : State}

/-- `rotate(k)` is the library's rotation, which counts toward lower indices. -/
theorem State.rotate_buf (hlen : s.buf.length = s.params.n) (k : Nat) :
    (s.rotate k).buf = s.buf.rotate (s.params.n - k % s.params.n) := by
  have hlen' : (s.rotate k).buf.length = s.params.n := s.rotate_buf_length k hlen
  refine List.ext_getElem (by rw [hlen', List.length_rotate, hlen]) fun i hi hi' => ?_
  have hled := s.led_rotate k i (hlen' ▸ hi)
  have hlt : (i + (s.params.n - k % s.params.n)) % s.params.n < s.buf.length := hlen ▸ Nat.mod_lt _ (by omega)
  rw [State.led, State.led, List.getD_eq_getElem _ _ hi, List.getD_eq_getElem _ _ hlt] at hled
  simpa only [List.getElem_rotate, hlen] using hled

/-- Only k mod N matters. -/
theorem State.rotate_mod (hlen : s.buf.length = s.params.n) (k : Nat) : s.rotate (k % s.params.n) = s.rotate k := by
  rw [s.rotate_frame k, s.rotate_frame (k % s.params.n), State.rotate_buf hlen, State.rotate_buf hlen, Nat.mod_mod]

theorem State.rotate_add (s : State) (a b : Nat) : s.rotate (a + b) = (s.rotate a).rotate b := by
  induction a generalizing s with
  | zero => rw [Nat.zero_add]; rfl
  | succ a ih => rw [Nat.succ_add]; exact ih s.rotate1

/-- `rotate(k)` moves what LED i has k positions on (43_color_primitives.md R255). -/
theorem State.led_rotate_add {i : Nat} (hi : i < s.params.n) (k : Nat) :
    (s.rotate k).led ((i + k) % s.params.n) = s.led i := by
  have hn : 0 < s.params.n := by omega
  have hk := Nat.mod_lt k hn
  have hround : i + k + (s.params.n - k % s.params.n) = i + s.params.n * (k / s.params.n + 1) := by
    have hdiv := Nat.div_add_mod k s.params.n
    rw [Nat.mul_succ]
    omega
  rw [State.led_rotate _ _ _ (Nat.mod_lt _ hn), Nat.mod_add_mod, hround, Nat.add_mul_mod_self_left,
    Nat.mod_eq_of_lt hi]

/-- LED i has what LED (i - k) mod N had (43_color_primitives.md R256). -/
theorem State.led_rotate_sub {i : Nat} (hi : i < s.params.n) (k : Nat) :
    (s.rotate k).led i = s.led (((i : Int) - k) % s.params.n).toNat := by
  have hn : (0 : Int) < s.params.n := by omega
  have hnonneg := Int.emod_nonneg ((i : Int) - k) hn.ne'
  have hlt := Int.emod_lt_of_pos ((i : Int) - k) hn
  have hback : ((((i : Int) - k) % s.params.n).toNat + k) % s.params.n = i := by
    zify
    rw [Int.toNat_of_nonneg hnonneg, Int.emod_add_emod, sub_add_cancel, Int.emod_eq_of_lt (by omega) (by omega)]
  rw [← State.led_rotate_add (i := (((i : Int) - k) % s.params.n).toNat) (by omega) k, hback]

end

/-- Settles O10: ROTATE is `rotate(k)`, then DIRTY. -/
theorem rotateResult : Obligations.RotateResult := by
  refine fun s k hidle hlen =>
    ⟨_, unlessBusy_idle hidle, ?_, s.rotate_buf_length k hlen, fun i hi => State.led_rotate_add hi k⟩
  rw [s.rotate_frame k]
  rfl

/-- Settles O11: the index law, and the others from what `rotate(k)` does to the list. -/
theorem rotationLaws : Obligations.RotationLaws := by
  intro s hn hlen
  refine ⟨fun k i hi => State.led_rotate_sub hi k, ?_, fun a b => ?_, fun k => ?_⟩
  · rw [← State.rotate_mod hlen, Nat.mod_self]
    rfl
  · rw [State.rotate_mod hlen, State.rotate_add]
  · rw [State.rotate_buf hlen]
    exact List.rotate_perm _ _

/-! ### Halving (43_color_primitives.md R262 to R264) -/

theorem chan_halveColor {chan : Color → Byte} (h : chan ∈ [chanG, chanR, chanB]) (c : Color) :
    chan (halveColor c) = chan c >>> 1 := by
  simp only [List.mem_cons, List.not_mem_nil, or_false] at h
  rcases h with rfl | rfl | rfl
  · exact chanG_rgb _ _ _
  · exact chanR_rgb _ _ _
  · exact chanB_rgb _ _ _

/-- The lit channels, counted channel by channel. -/
theorem sum_litChannels (f : Nat → Color) (l : List Nat) :
    (l.map fun i => litChannels (f i)).sum =
      (l.countP fun i => chanG (f i) ≠ 0) + (l.countP fun i => chanR (f i) ≠ 0) +
        (l.countP fun i => chanB (f i) ≠ 0) := by
  induction l with
  | nil => rfl
  | cons i l ih =>
    rw [List.map_cons, List.sum_cons, ih]
    simp only [List.countP_cons, litChannels, decide_eq_true_iff]
    omega

/-- NZCOUNT holds the whole recount, since 3N fits its 8 bits (10_state.md R30). -/
theorem State.nzCount_halve {s : State} (hn : s.params.n ≤ 32) : s.halve.1.nzCount.toNat = s.halve.1.litCount := by
  have hle : s.halve.1.litCount ≤ 3 * s.params.n := s.halve.1.litCount_le
  have hlt : s.halve.1.litCount < 2 ^ 8 := by omega
  exact Nat.mod_eq_of_lt hlt

/-- Settles O12: HALVE is `halve()`, then DIRTY. -/
theorem halveResult : Obligations.HalveResult := by
  intro s hidle hn
  have hled (i : Nat) (hi : i < s.params.n) : s.halve.1.led i = halveColor (s.led i) :=
    (s.led_halve i).trans (if_pos hi)
  refine ⟨_, unlessBusy_idle hidle, rfl, s.halve_buf_length, fun i hi => ?_,
    (State.nzCount_halve hn).trans (sum_litChannels s.halve.1.led (List.range s.params.n))⟩
  show chanG (s.halve.1.led i) = _ ∧ chanR (s.halve.1.led i) = _ ∧ chanB (s.halve.1.led i) = _
  rw [hled i hi]
  exact ⟨chan_halveColor (by simp) _, chan_halveColor (by simp) _, chan_halveColor (by simp) _⟩

theorem State.iterate_halve_params (s : State) (k : Nat) : ((fun u : State => u.halve.1)^[k] s).params = s.params := by
  induction k with
  | zero => rfl
  | succ k ih => rw [Function.iterate_succ_apply']; exact ih

/-- k halvings shift each channel right by k. -/
theorem State.chan_iterate_halve {s : State} {i : Nat} (hi : i < s.params.n) {chan : Color → Byte}
    (h : chan ∈ [chanG, chanR, chanB]) (k : Nat) :
    chan (((fun u : State => u.halve.1)^[k] s).led i) = chan (s.led i) >>> k := by
  induction k with
  | zero => exact (BitVec.ushiftRight_zero _).symm
  | succ k ih =>
    rw [Function.iterate_succ_apply', State.led_halve, if_pos (by rwa [State.iterate_halve_params]),
      chan_halveColor h, ih, BitVec.shiftRight_add]

/-- Settles O13: each law is a fact of right shifts, or of the recount. -/
theorem halvingLaws : Obligations.HalvingLaws := by
  intro s after
  have hchan (k i : Nat) (hi : i < s.params.n) (chan : Color → Byte) (h : chan ∈ [chanG, chanR, chanB]) :
      chan ((after k).led i) = chan (s.led i) >>> k := State.chan_iterate_halve hi h k
  refine ⟨fun i hi => ?_, fun i hi chan h hv k => ?_, fun k => ?_, fun i hi chan h => ?_, ?_⟩
  · have hzero (chan : Color → Byte) (h : chan ∈ [chanG, chanR, chanB]) : chan ((after 8).led i) = 0 :=
      (hchan 8 i hi chan h).trans (BitVec.ushiftRight_eq_zero le_rfl)
    exact color_eq_zero (hzero _ (by simp)) (hzero _ (by simp)) (hzero _ (by simp))
  · rw [hchan k i hi chan h]
    exact ushiftRight_eq_zero_iff hv k
  · rw [State.halve_count]
    exact congrArg State.litCount (Function.iterate_succ_apply' (fun u : State => u.halve.1) k s).symm
  · rw [hchan 1 i hi chan h]
    refine ⟨?_, fun h0 => by simp [h0]⟩
    rw [BitVec.toNat_ushiftRight]
    exact Nat.shiftRight_le _ _
  · rw [State.halve_count]
    exact State.litCount_eq_zero _

/-! ### The rainbow (43_color_primitives.md R266 to R268) -/

section
variable {p : Params} {l : Nat}

/-- A row of RB_LUT starts at PEAK and decreases (00_scope.md R8). -/
theorem Params.lut_le_peak (h : p.LutOk) (hl : 0 < l) (hmax : l ≤ p.nTuned / 3) {j : Nat} (hj : j < l) :
    p.lut l j ≤ p.peak := by
  obtain ⟨hlen, hpeak, hdec⟩ := h (l - 1) (by omega)
  rw [Nat.sub_add_cancel hl] at hlen hpeak
  have hrow (i : Nat) (hi : i < l) : p.lut l i = (p.rbLut.getD (l - 1) [])[i] :=
    List.getD_eq_getElem _ _ (hi.trans_eq hlen.symm)
  rcases Nat.eq_zero_or_pos j with rfl | hpos
  · exact hpeak.le
  · rw [← hpeak, hrow 0 hl, hrow j hj]
    exact (List.pairwise_iff_getElem.1 hdec 0 j _ _ hpos).le

variable {pos : Nat} (hl : l = min p.n p.nTuned / 3)
include hl

theorem rainbowColor_past (h : 3 * l ≤ pos) : rainbowColor p pos = 0 := by
  subst hl
  exact if_pos h

theorem rainbowColor_first (h : pos < l) : rainbowColor p pos =
    rgb (BitVec.ofNat 8 (p.lut l (pos % l))) (BitVec.ofNat 8 (p.peak - p.lut l (pos % l))) 0 := by
  subst hl
  exact (if_neg (by omega)).trans (if_pos (Nat.div_eq_of_lt h))

theorem rainbowColor_second (h1 : l ≤ pos) (h2 : pos < 2 * l) : rainbowColor p pos =
    rgb 0 (BitVec.ofNat 8 (p.lut l (pos % l))) (BitVec.ofNat 8 (p.peak - p.lut l (pos % l))) := by
  have hdiv : pos / l = 1 := Nat.div_eq_of_lt_le (by omega) (by omega)
  subst hl
  exact (if_neg (by omega)).trans ((if_neg (by omega)).trans (if_pos hdiv))

theorem rainbowColor_third (h1 : 2 * l ≤ pos) (h2 : pos < 3 * l) : rainbowColor p pos =
    rgb (BitVec.ofNat 8 (p.peak - p.lut l (pos % l))) 0 (BitVec.ofNat 8 (p.lut l (pos % l))) := by
  have hdiv : pos / l = 2 := Nat.div_eq_of_lt_le (by omega) (by omega)
  subst hl
  exact (if_neg (by omega)).trans ((if_neg (by omega)).trans (if_neg (by omega)))

end

/-- Settles O14: the sector of each LED gives its channels, whose weights fit 8 bits. -/
theorem rainbowResult : Obligations.RainbowResult := by
  intro s hok hidle
  obtain ⟨hn, -, -, -, htuned, -, -, -, hpeak, hlut, -⟩ := hok
  obtain ⟨t, ht, hframe, hlen, hled⟩ := exec_paints (i := .rainbow) (unlessBusy_idle hidle)
  refine ⟨t, ht, hframe, hlen, ?_⟩
  intro i hi m l p a c
  have hl : 0 < l := by omega
  have ha : a ≤ s.params.peak := Params.lut_le_peak hlut hl (by omega) (Nat.mod_lt p hl)
  have hbyte (v : Nat) (hv : v ≤ s.params.peak) : (BitVec.ofNat 8 v).toNat = v := Nat.mod_eq_of_lt (by omega)
  have hc (r g b : Byte) (h : rainbowColor s.params p = rgb r g b) : c = (r.toNat, g.toNat, b.toNat) := by
    simp only [c, hled i hi]
    rw [h, chanR_rgb, chanG_rgb, chanB_rgb]
  have hwa := hbyte a ha
  have hwb := hbyte (s.params.peak - a) (Nat.sub_le _ _)
  refine ⟨fun h => (hled i hi).trans (rainbowColor_past rfl h), fun h => ?_, fun h1 h2 => ?_, fun h1 h2 => ?_,
    fun _ => ha⟩
  · rw [hc _ _ _ (rainbowColor_first rfl h), hwa, hwb, toNat_reserved]
  · rw [hc _ _ _ (rainbowColor_second rfl h1 h2), hwa, hwb, toNat_reserved]
  · rw [hc _ _ _ (rainbowColor_third rfl h1 h2), hwa, hwb, toNat_reserved]

/-- Settles O15: the model run on the one state that R268 names. -/
theorem rainbowTableForEighteen : Obligations.RainbowTableForEighteen :=
  ⟨_, unlessBusy_idle rfl, by decide, by decide, by decide⟩

/-! ### Random fill (43_color_primitives.md R270, R271) -/

/-- Taking k draws leaves the later ones, in their order (00_scope.md R15). -/
theorem RandPort.draw_advance (r : RandPort) (k j : Nat) : (r.advance k).draw j = r.draw (k + j) := by
  simp only [RandPort.draw, RandPort.advance, List.getElem?_drop, Nat.add_assoc]

theorem RandPort.draw_placed {r : RandPort} {j : Nat} (h : j < r.placed.length) : r.draw j = r.placed[j] := by
  rw [RandPort.draw, List.getElem?_eq_getElem h]

/-- Settles O16: `random_fill()` gives LED i its `DrawColor`, and the port answers each draw once. -/
theorem randomFillResult : Obligations.RandomFillResult := by
  refine ⟨fun s hidle => ⟨_, unlessBusy_idle hidle, rfl, s.paint_buf_length _, fun i hi => ?_⟩,
    fun r k j => ⟨r.draw_advance k j, RandPort.draw_placed⟩⟩
  have hled : s.randomFill.markDirty.led i = s.rand.drawColor i := (s.led_paint _ i).trans (if_pos hi)
  rw [hled]
  exact ⟨chanG_rgb _ _ _, chanR_rgb _ _ _, chanB_rgb _ _ _⟩

end Sys2Proof.Machine

namespace Sys2Proof.Machine

/-! # The debounce unit and the demo counter (44_debounce_demo.md) -/

/-- 1 ≤ S < M < L ≤ 255 (00_scope.md R8). -/
theorem ticks_bounded_of_ok {pr : Params} (h : pr.Ok) :
    1 ≤ pr.shortTicks ∧ pr.shortTicks < pr.midTicks ∧ pr.midTicks < pr.longTicks ∧ pr.longTicks ≤ 255 := by
  obtain ⟨-, -, -, -, -, -, -, -, -, -, hS, hSL, hL, -⟩ := h
  exact ⟨hS, (Params.ticks_ordered hSL).1, (Params.ticks_ordered hSL).2, hL⟩

/-! ### One tick (44_debounce_demo.md R292 to R298) -/

/-- The state machine completes at a count up to LONG_TICKS, and writes neither BTN nor NEXT_REQ. -/
theorem DbUnit.fsm_completes {pr : Params} {d : DbUnit} (hok : pr.Ok) (hc : d.cnt.toNat ≤ pr.longTicks) :
    ∃ e, d.fsm pr = some e ∧ e.btn = d.btn ∧ e.nextReq = d.nextReq := by
  obtain ⟨-, -, -, -, -, -, -, -, -, -, -, hSL, -⟩ := hok
  rcases DbUnit.fsm_cases hSL hc with ⟨-, hf⟩ | ⟨-, -, -, -, hf⟩ | ⟨-, hf⟩ | ⟨-, hf⟩ | ⟨-, hf⟩ <;>
    refine ⟨_, hf, ?_⟩
  · split <;> exact ⟨rfl, rfl⟩
  · exact ⟨rfl, rfl⟩
  · split <;> exact ⟨rfl, rfl⟩
  · split <;> exact ⟨rfl, rfl⟩
  · split
    · exact ⟨rfl, rfl⟩
    · split <;> exact ⟨rfl, rfl⟩

/-- A tick completes, puts its sample in BTN and runs the demo counter (44_debounce_demo.md R292, R302). -/
theorem tickStep_completes {p : Bool} {s : State} (hok : s.params.Ok) (hc : s.db.cnt.toNat ≤ s.params.longTicks) :
    ∃ t, tickStep p s = .next t ∧ t.params = s.params ∧ t.db.btn = p ∧
      t.demo = (s.demo.tick s.params.demoTicks).1 ∧
      t.db.nextReq = (s.db.nextReq || (s.demo.tick s.params.demoTicks).2) := by
  obtain ⟨e, he, hbtn, hnext⟩ :=
    DbUnit.fsm_completes (d := { s.db with sync1 := !p, sync2 := !p, btn := p }) hok hc
  exact ⟨_, tickStep_of_fsm he, rfl, hbtn, rfl, congrArg (· || _) hnext⟩

/-- Settles O51: the branch of the state machine that each count takes. -/
theorem tickOfTheStateMachine : Obligations.TickOfTheStateMachine := by
  intro s p hok hc
  obtain ⟨hS, hSM, hML, hL⟩ := ticks_bounded_of_ok hok
  obtain ⟨t, ht, -, hbtn, -⟩ := tickStep_completes (p := p) hok hc
  obtain ⟨e, he, rfl⟩ := fsm_of_tickStep ht
  have hsucc : s.db.cnt.toNat < s.params.longTicks → (s.db.cnt + 1).toNat = s.db.cnt.toNat + 1 :=
    fun h => cnt_succ h hL
  refine ⟨_, ht, rfl, hbtn, ?_⟩
  rcases DbUnit.fsm_cases (d := { s.db with sync1 := !p, sync2 := !p, btn := p }) (by omega) hc with
    ⟨hc, hf⟩ | ⟨h0, hcL, hcS, hcM, hf⟩ | ⟨hc, hf⟩ | ⟨hc, hf⟩ | ⟨hc, hf⟩ <;>
    obtain rfl := Option.some.inj (he.symm.trans hf) <;> dsimp only at *
  · refine ⟨fun _ => ?_, by omega, by omega, by omega, by omega⟩
    split
    · exact ⟨rfl, rfl, rfl, rfl⟩
    · exact ⟨rfl, rfl, rfl, hc⟩
  · exact ⟨by omega, fun _ _ _ _ => ⟨rfl, rfl, rfl, hsucc hcL⟩, by omega, by omega, by omega⟩
  · refine ⟨by omega, by omega, fun _ => ?_, by omega, by omega⟩
    cases p <;> exact ⟨rfl, rfl, rfl, hsucc (by omega)⟩
  · refine ⟨by omega, by omega, by omega, fun _ => ?_, by omega⟩
    split
    · exact ⟨rfl, rfl, rfl, rfl⟩
    · exact ⟨rfl, rfl, rfl, hsucc (by omega)⟩
  · refine ⟨by omega, by omega, by omega, by omega, fun _ => ?_⟩
    split
    · exact ⟨rfl, rfl, rfl, rfl⟩
    · split <;> exact ⟨rfl, rfl, rfl, rfl⟩

theorem tickStep_params {p : Bool} {s t : State} (h : tickStep p s = .next t) : t.params = s.params := by
  rw [(tickStep_frame h).1]

/-- A tick counts on or ends the cycle, so the count stays in range (44_debounce_demo.md R294, R305). -/
theorem tickStep_cnt {p : Bool} {s t : State} (hok : s.params.Ok) (hc : s.db.cnt.toNat ≤ s.params.longTicks)
    (h : tickStep p s = .next t) :
    t.db.cnt.toNat = 0 ∨ s.db.cnt.toNat < s.params.longTicks ∧ t.db.cnt.toNat = s.db.cnt.toNat + 1 := by
  obtain ⟨hS, hSM, hML, -⟩ := ticks_bounded_of_ok hok
  obtain ⟨u, hu, -, -, hidle, hcount, hshort, hmid, hlong⟩ := tickOfTheStateMachine s p hok hc
  obtain rfl : u = t := Host.Outcome.next.inj (hu.symm.trans h)
  by_cases h0 : s.db.cnt.toNat = 0
  · obtain ⟨-, -, -, hcnt⟩ := hidle h0
    split at hcnt <;> omega
  by_cases hcS : s.db.cnt.toNat = s.params.shortTicks
  · obtain ⟨-, -, -, hcnt⟩ := hshort hcS
    omega
  by_cases hcM : s.db.cnt.toNat = s.params.midTicks
  · have hm := hmid hcM
    split at hm <;> obtain ⟨-, -, -, hcnt⟩ := hm <;> omega
  by_cases hcL : s.db.cnt.toNat = s.params.longTicks
  · have hl := hlong hcL
    split_ifs at hl <;> obtain ⟨-, -, -, hcnt⟩ := hl <;> exact .inl hcnt
  · obtain ⟨-, -, -, hcnt⟩ := hcount h0 hcS hcM hcL
    omega

/-! ### Lists of ticks (44_debounce_demo.md R299, R301, R305) -/

/-- Settles O52: a tick at count 0 with an event pending changes neither, so no list of ticks does. -/
theorem pendingEventHoldsTheMachine : Obligations.PendingEventHoldsTheMachine := by
  intro s ps hok hp hc
  induction ps generalizing s with
  | nil => exact ⟨s, rfl, hc, hp, rfl, rfl⟩
  | cons p ps ih =>
    have h0 : s.db.cnt.toNat = 0 := congrArg BitVec.toNat hc
    obtain ⟨t, ht, -, -, hidle, -⟩ := tickOfTheStateMachine s p hok (by omega)
    obtain ⟨hevent, hpending, hprov, hcnt⟩ := hidle h0
    rw [if_neg (by simp [hp])] at hcnt
    obtain ⟨u, hu, hu0, hup, hue, huv⟩ :=
      ih t ((tickStep_params ht).symm ▸ hok) (hpending.trans hp) (BitVec.eq_of_toNat_eq hcnt)
    exact ⟨u, (ticks_cons ht).trans hu, hu0, hup, hue.trans hevent, huv.trans hprov⟩

/-- Settles O54: each tick counts on, so the cycle ends by the tick at LONG_TICKS. -/
theorem cycleEnds : Obligations.CycleEnds := by
  intro s ps hok h1 hL hlen
  induction ps generalizing s with
  | nil => simp at hlen
  | cons p ps ih =>
    obtain ⟨t, ht, hparams, -⟩ := tickStep_completes (p := p) hok hL
    rcases tickStep_cnt hok hL ht with h0 | ⟨hlt, hcnt⟩
    · exact ⟨1, by simp, t, ticks_cons ht, BitVec.eq_of_toNat_eq h0⟩
    · rw [List.length_cons] at hlen
      obtain ⟨k, hk, u, hu, hu0⟩ := ih t (hparams ▸ hok) (by omega) (by rw [hparams]; omega) (by rw [hparams]; omega)
      exact ⟨k + 1, Nat.succ_le_succ hk, u, (ticks_cons ht).trans hu, hu0⟩

/-! ### A press cycle (44_debounce_demo.md R299, R306) -/

/-- The unit k ticks into a cycle with no event so far: once the tick at SHORT_TICKS is past, PROV has its sample. -/
def DbUnit.InCycle (d : DbUnit) (shortTicks : Nat) (atS : Bool) (k : Nat) : Prop :=
  d.event = .none ∧ d.pending = false ∧ d.prov = (decide (shortTicks < k) && atS) ∧ d.cnt.toNat = k

/-- A tick before LONG_TICKS counts on, unless it is the first and finds no press or is the one that emits at MID_TICKS
(44_debounce_demo.md R293 to R296). -/
theorem tickStep_inCycle {s : State} {atS p : Bool} {k : Nat} (hs : s.db.InCycle s.params.shortTicks atS k)
    (hok : s.params.Ok) (hL : k < s.params.longTicks) (hp0 : k = 0 → p = true)
    (hpS : k = s.params.shortTicks → p = atS) (hpM : k = s.params.midTicks → ¬ (atS = true ∧ p = false)) :
    ∃ t, tickStep p s = .next t ∧ t.params = s.params ∧ t.db.InCycle s.params.shortTicks atS (k + 1) := by
  obtain ⟨hevent, hpending, hprov, rfl⟩ := hs
  obtain ⟨hS, hSM, -, -⟩ := ticks_bounded_of_ok hok
  obtain ⟨t, ht, -, -, hidle, hcount, hshort, hmid, -⟩ := tickOfTheStateMachine s p hok hL.le
  refine ⟨t, ht, tickStep_params ht, ?_⟩
  rw [hevent, hpending, hprov] at hidle hcount hshort hmid
  unfold DbUnit.InCycle
  by_cases hcS : s.db.cnt.toNat = s.params.shortTicks
  · simpa [hcS, hpS hcS] using hshort hcS
  rw [show decide (s.params.shortTicks < s.db.cnt.toNat + 1) = decide (s.params.shortTicks < s.db.cnt.toNat) from
    decide_eq_decide.2 (by omega)]
  by_cases h0 : s.db.cnt.toNat = 0
  · rw [if_pos ⟨hp0 h0, rfl⟩] at hidle
    rw [h0] at hidle ⊢
    exact hidle rfl
  by_cases hcM : s.db.cnt.toNat = s.params.midTicks
  · rw [if_neg (by simpa [hcM, hSM] using hpM hcM)] at hmid
    exact hmid hcM
  · exact hcount h0 hcS hcM hL.ne

theorem ticks_take_succ {ps : List Bool} {p : Bool} {k : Nat} {s t u : State} (h : ticks (ps.take k) s = some t)
    (hp : ps[k]? = some p) (ht : tickStep p t = .next u) : ticks (ps.take (k + 1)) s = some u := by
  rw [List.take_add_one, hp, ticks_append, h]
  exact ticks_cons ht

/-- From idle the cycle counts to MID_TICKS, and on to LONG_TICKS unless a ShortPress ends it. -/
theorem ticks_inCycle {s : State} {ps : List Bool} {atS atM : Bool} (hok : s.params.Ok)
    (hs : s.db.InCycle s.params.shortTicks atS 0) (hlen : ps.length = s.params.longTicks + 1)
    (hp0 : ps[0]? = some true) (hpS : ps[s.params.shortTicks]? = some atS) (hpM : ps[s.params.midTicks]? = some atM)
    {k : Nat} (hk : k ≤ s.params.longTicks) (hshort : k ≤ s.params.midTicks ∨ ¬ (atS = true ∧ atM = false)) :
    ∃ t, ticks (ps.take k) s = some t ∧ t.params = s.params ∧ t.db.InCycle s.params.shortTicks atS k := by
  induction k with
  | zero => exact ⟨s, rfl, rfl, hs⟩
  | succ k ih =>
    obtain ⟨t, ht, hparams, hcycle⟩ := ih (by omega) (hshort.imp_left Nat.le_of_succ_le)
    obtain ⟨p, hp⟩ : ∃ p, ps[k]? = some p := ⟨_, List.getElem?_eq_getElem (by omega)⟩
    have hsample {j : Nat} {b : Bool} (hj : ps[j]? = some b) (h : k = j) : p = b :=
      Option.some.inj (hp.symm.trans (h ▸ hj))
    have hmid (h : k = s.params.midTicks) : ¬ (atS = true ∧ p = false) :=
      hsample hpM h ▸ hshort.resolve_left (by omega)
    rw [← hparams] at hcycle hk hpS hmid hok
    obtain ⟨u, hu, huparams, hucycle⟩ := tickStep_inCycle hcycle hok hk (hsample hp0) (hsample hpS) hmid
    exact ⟨u, ticks_take_succ ht hp hu, huparams.trans hparams, hparams ▸ hucycle⟩

/-- Settles O53: the cycle only counts but at its sample points, and the samples at S, M and L say how it ends. -/
theorem pressCycle : Obligations.PressCycle := by
  intro s ps hok hcnt hpending hevent hprov hlen hp0 atS atM atL hpS hpM hpL
  obtain ⟨-, hSM, hML, -⟩ := ticks_bounded_of_ok hok
  have hs : s.db.InCycle s.params.shortTicks atS 0 := ⟨hevent, hpending, hprov, congrArg BitVec.toNat hcnt⟩
  refine ⟨fun k hk => ?_, fun hatS hatM => ?_, fun hlate => ?_⟩
  · obtain ⟨t, ht, -, -, hnone, -⟩ := ticks_inCycle hok hs hlen hp0 hpS hpM (hk.trans hML.le) (.inl hk)
    exact ⟨t, ht, hnone⟩
  · obtain ⟨t, ht, hparams, -, -, htv, htc⟩ := ticks_inCycle hok hs hlen hp0 hpS hpM hML.le (.inl le_rfl)
    obtain ⟨u, hu, -, -, -, -, -, hmid, -⟩ := tickOfTheStateMachine t atM (hparams ▸ hok) (by rw [hparams]; omega)
    rw [hparams, if_pos ⟨by simp [htv, hSM, hatS], hatM⟩] at hmid
    obtain ⟨hue, hup, huv, huc⟩ := hmid htc
    exact ⟨u, ticks_take_succ ht hpM hu, hue, hup, BitVec.eq_of_toNat_eq huc, huv⟩
  · obtain ⟨t, ht, hparams, hte, htp, htv, htc⟩ := ticks_inCycle hok hs hlen hp0 hpS hpM le_rfl (.inr hlate)
    obtain ⟨u, hu, -, -, -, -, -, -, hlong⟩ := tickOfTheStateMachine t atL (hparams ▸ hok) (by rw [hparams]; omega)
    have hatS : t.db.prov = atS := by simp [htv, hSM.trans hML]
    rw [hparams, hte, htp, hatS] at hlong
    have hall := ticks_take_succ ht hpL hu
    rw [← hlen, List.take_length] at hall
    refine ⟨u, hall, ?_⟩
    have hend := hlong htc
    cases atL <;> cases atS <;> obtain ⟨hue, hup, huv, huc⟩ := hend <;>
      exact ⟨BitVec.eq_of_toNat_eq huc, huv, hue, hup⟩

/-! ### The demo counter (44_debounce_demo.md R302, R303) -/

section
variable {m : DemoUnit} {D : Nat}

theorem DemoUnit.tick_off (hen : m.en = false) : m.tick D = (m, false) := by
  rw [DemoUnit.tick, if_neg (by simp [hen])]

/-- With demo mode on DEMO_CNT counts modulo DEMO_TICKS, and the tick that reaches it asks for the next pattern. -/
theorem DemoUnit.tick_on (hen : m.en = true) (hm : m.cnt.toNat < D) (hD : D ≤ 65535) :
    (m.tick D).1.cnt.toNat = (m.cnt.toNat + 1) % D ∧ (m.tick D).2 = decide (D ≤ m.cnt.toNat + 1) := by
  have hsucc : (m.cnt + 1).toNat = m.cnt.toNat + 1 := by
    rw [BitVec.toNat_add]
    exact Nat.mod_eq_of_lt (by simpa using by omega)
  rw [DemoUnit.tick, if_pos hen, hsucc]
  split
  · next h => exact ⟨by rw [show m.cnt.toNat + 1 = D by omega, Nat.mod_self]; rfl, (decide_eq_true h).symm⟩
  · next h => exact ⟨hsucc.trans (Nat.mod_eq_of_lt (by omega)).symm, (decide_eq_false h).symm⟩

end

/-- Any list of ticks: DEMO_EN stays, and the demo counter counts them only while it is on. -/
theorem ticks_demo (ps : List Bool) {s : State} (hok : s.params.Ok) (hc : s.db.cnt.toNat ≤ s.params.longTicks)
    (hm : s.demo.Good s.params.demoTicks) :
    ∃ u, ticks ps s = some u ∧ u.demo.en = s.demo.en ∧
      (s.demo.en = false → u.demo = s.demo ∧ u.db.nextReq = s.db.nextReq) ∧
      (s.demo.en = true → u.demo.cnt.toNat = (s.demo.cnt.toNat + ps.length) % s.params.demoTicks ∧
        u.db.nextReq = (s.db.nextReq || decide (s.params.demoTicks ≤ s.demo.cnt.toNat + ps.length))) := by
  induction ps generalizing s with
  | nil =>
    exact ⟨s, rfl, rfl, fun _ => ⟨rfl, rfl⟩, fun _ => ⟨(Nat.mod_eq_of_lt hm.count).symm, by simp [hm.count]⟩⟩
  | cons p ps ih =>
    obtain ⟨t, ht, hparams, -, hdemo, hnext⟩ := tickStep_completes (p := p) hok hc
    have hcnt := tickStep_cnt hok hc ht
    obtain ⟨u, hu, huen, huoff, huon⟩ :=
      ih (s := t) (hparams ▸ hok) (by rw [hparams]; omega) (by rw [hparams, hdemo]; exact hm.tick)
    have hen : t.demo.en = s.demo.en := (tickStep_frame ht).2
    refine ⟨u, (ticks_cons ht).trans hu, huen.trans hen, fun hoff => ?_, fun hon => ?_⟩
    · obtain ⟨hud, hun⟩ := huoff (hen.trans hoff)
      rw [DemoUnit.tick_off hoff] at hdemo hnext
      exact ⟨hud.trans hdemo, by rw [hun, hnext, Bool.or_false]⟩
    · obtain ⟨-, -, -, -, -, -, -, -, -, -, -, -, -, -, hD, -⟩ := hok
      obtain ⟨hud, hun⟩ := huon (hen.trans hon)
      obtain ⟨hcount, hreq⟩ := DemoUnit.tick_on hon hm.count hD
      rw [hparams, hdemo, hcount] at hud hun
      rw [hreq] at hnext
      rw [hud, hun, hnext, Nat.mod_add_mod, List.length_cons, Bool.or_assoc]
      refine ⟨congrArg (· % _) (by omega), congrArg _ ?_⟩
      rw [← Bool.decide_or, decide_eq_decide]
      by_cases hfull : s.params.demoTicks ≤ s.demo.cnt.toNat + 1
      · exact iff_of_true (.inl hfull) (by omega)
      · rw [Nat.mod_eq_of_lt (by omega)]
        omega

/-- Settles O56: the write leaves the counter at 0, from where the ticks are counted. -/
theorem demoPeriod : Obligations.DemoPeriod := by
  intro s v ps hok hc
  have hwrite : hostWrite 0x024 v s = .next (s.demoWrite v) :=
    hostWrite_of_regAt (a := 0x024) (r := .demoCtrl) (by decide) (by decide) v s
  have hD : 1 ≤ s.params.demoTicks := by
    obtain ⟨-, -, -, -, -, -, -, -, -, -, -, -, -, hD, -⟩ := hok
    exact hD
  obtain ⟨u, hu, hen, hoff, hon⟩ := ticks_demo ps (s := s.demoWrite v) hok hc ⟨hD, fun _ => rfl⟩
  refine ⟨_, u, hwrite, rfl, hu, hen, fun hv => ?_, fun hv => ?_⟩
  · obtain ⟨hdemo, hnext⟩ := hoff hv
    exact ⟨congrArg DemoUnit.cnt hdemo, hnext⟩
  · simpa using hon hv

end Sys2Proof.Machine

namespace Sys2Proof.Machine

/-! # Errors (60_exceptions.md) -/

/-! ### A frame in flight (60_exceptions.md R334) -/

/-- Settles O37: every command but NOP runs under the one check of STATUS.TX_BUSY. -/
theorem busyRejectsCommands : Obligations.BusyRejectsCommands := by
  intro i s hbusy hne
  cases i with
  | nop => exact absurd rfl hne
  | _ => exact unlessBusy_busy hbusy

/-! ### Every command is precise (60_exceptions.md R331, R335) -/

/-- `t` is `s` with the rejection of command `i` recorded, or has the error record of `s`. -/
def State.PreciseFor (s : State) (i : Instr) (t : State) : Prop :=
  (∃ c, c ∈ [Cause.range, .busy, .state, .cfg] ∧ t = s.raise c (encode i)) ∨ t.err = s.err

section
variable {s t body : State} {i : Instr}

theorem State.PreciseFor.raise {c : Cause} (hc : c ∈ [Cause.range, .busy, .state, .cfg]) :
    s.PreciseFor i (s.raise c (encode i)) := .inl ⟨c, hc, rfl⟩

/-- A buffer command: no primitive writes the error record, nor does setting DIRTY. -/
theorem GenFrame.preciseFor_markDirty (h : GenFrame s t) : s.PreciseFor i t.markDirty := .inr h.err_dirty.1

/-- A command is precise if what it does in an idle block is (40_host_access.md R146). -/
theorem unlessBusy_precise (h : s.PreciseFor i body) : ∃ t, unlessBusy i s body = .next t ∧ s.PreciseFor i t := by
  cases hb : s.tx.busy with
  | false => exact ⟨_, unlessBusy_idle hb, h⟩
  | true => exact ⟨_, unlessBusy_busy hb, .raise (by decide)⟩

/-- STEP's checks reject with STATE or CFG (42_pattern_engine.md R204). -/
theorem State.cause_of_stepCheck {c : Cause} (h : s.stepCheck = some c) : c = .state ∨ c = .cfg := by
  by_cases hd : s.pstat = .fadeDone
  · cases (State.stepCheck_fadeDone hd).symm.trans h
    exact .inl rfl
  · cases hf : s.fadeActive with
    | true =>
      rw [State.stepCheck_fade hd hf, Option.ite_none_right_eq_some] at h
      exact .inr (Option.some.inj h.2).symm
    | false =>
      rw [State.stepCheck_slot hd hf, Option.ite_none_left_eq_some] at h
      exact .inr (Option.some.inj h.2).symm

theorem execFillRange_precise (lo hi : Nat) :
    ∃ t, execFillRange lo hi s = .next t ∧ s.PreciseFor (.fillRange lo hi) t :=
  unlessBusy_precise <| by
    split
    · exact .raise (by decide)
    · exact (GenFrame.paint s _).preciseFor_markDirty

theorem execSelect_precise (slot : Nat) : ∃ t, execSelect slot s = .next t ∧ s.PreciseFor (.select slot) t :=
  unlessBusy_precise <| by
    split
    · exact .raise (by decide)
    · exact .inr rfl

theorem execStep_precise : ∃ t, execStep s = .next t ∧ s.PreciseFor .step t :=
  unlessBusy_precise <| by
    split
    · next c hc => exact .raise (by rcases State.cause_of_stepCheck hc with rfl | rfl <;> decide)
    · exact .inr s.generate_frame.err_dirty.1

end

/-- Settles O36: only the busy check, the range checks and STEP's checks record anything. -/
theorem commandErrorsArePrecise : Obligations.CommandErrorsArePrecise := by
  intro i s
  cases i with
  | nop => exact ⟨s, rfl, .inr rfl⟩
  | fillAll => exact unlessBusy_precise (GenFrame.paint s _).preciseFor_markDirty
  | fillRange lo hi => exact execFillRange_precise lo hi
  | fillMask => exact unlessBusy_precise (GenFrame.paint s _).preciseFor_markDirty
  | rotate k => exact unlessBusy_precise (GenFrame.rotate s k).preciseFor_markDirty
  | halve => exact unlessBusy_precise (GenFrame.halve s).preciseFor_markDirty
  | rainbow => exact unlessBusy_precise (GenFrame.paint s _).preciseFor_markDirty
  | randomFill => exact unlessBusy_precise (GenFrame.randomFill s).preciseFor_markDirty
  | select slot => exact execSelect_precise slot
  | fadeStart => exact unlessBusy_precise (.inr rfl)
  | step => exact execStep_precise
  | transmit => exact unlessBusy_precise (.inr rfl)

/-! ### The error record (60_exceptions.md R333, R336, R337) -/

theorem ErrRecord.record_first {e : ErrRecord} (h : e.cause = .none) (c : Cause) (info : Word) :
    e.record c info = { e with cause := c, info := info } := if_pos h

theorem ErrRecord.record_later {e : ErrRecord} (h : e.cause ≠ .none) (c : Cause) (info : Word) :
    e.record c info = { e with multi := true } := if_neg h

theorem State.busRead_err (s : State) : s.busRead 0x008 = s.err.word := rfl

theorem State.busRead_errInfo (s : State) : s.busRead 0x00C = s.err.info := rfl

/-- Settles O35: the two cases of recording, then the writes to ERR and to ERR_INFO. -/
theorem errorRecordKeepsTheFirst : Obligations.ErrorRecordKeepsTheFirst := by
  intro s c info v
  have hclear : hostWrite 0x008 v s = .next s.clearErr :=
    hostWrite_of_regAt (a := 0x008) (r := .err) (by decide) (by decide) v s
  have hignored : hostWrite 0x00C v s = .next s :=
    hostWrite_of_regAt (a := 0x00C) (r := .errInfo) (by decide) (by decide) v s
  refine ⟨fun h => ?_, fun h => ?_, ⟨s.clearErr, hclear, rfl, ?_, s.clearErr.busRead_errInfo⟩, hignored⟩
  · rw [State.raise, ErrRecord.record_first h]
  · rw [State.raise, ErrRecord.record_later h]
  · rw [State.busRead_err, State.clearErr_err]
    decide

end Sys2Proof.Machine

namespace Sys2Proof.Machine

/-! # Reset (70_reset_and_hazards.md) -/

/-! ### The reset state (70_reset_and_hazards.md R371) -/

theorem State.led_resetOf (p : Params) (i : Nat) : (State.resetOf p).led i = 0 :=
  List.getElem?_getD_replicate_default_eq (0 : Color) p.n i

theorem State.busRead_reset_palette :
    ((List.range 8).map fun k => State.reset.busRead (BitVec.ofNat 9 (0x060 + 4 * k))) =
      resetPalette.toList.map (BitVec.setWidth 32) := by decide

/-- The default block has a slot for each word of the table (10_state.md R40). -/
theorem State.busRead_reset_slotCfg :
    ((List.range 12).map fun k => State.reset.busRead (BitVec.ofNat 9 (0x080 + 4 * k))) = resetSlotWords := by decide

/-- Settles O43: the single registers, the palette's and the slots' tables, then the buffer and the units. -/
theorem resetReads : Obligations.ResetReads :=
  ⟨by decide, State.busRead_reset_palette, State.busRead_reset_slotCfg, rfl, rfl, rfl, rfl⟩

/-! ### The reset input (70_reset_and_hazards.md R370) -/

theorem step_rst {s : State} {rest : List Input} (hin : s.inputs = .rst :: rest) :
    step s = .next { State.resetOf s.params with inputs := rest, rand := s.rand } := step_cons hin

/-- Settles O44: the step's state is the reset state up to its inputs and its random port. -/
theorem resetInput : Obligations.ResetInput := fun s _ hin =>
  ⟨_, step_rst hin, rfl, rfl, rfl, rfl, State.led_resetOf s.params⟩

end Sys2Proof.Machine
